-- ==== Sys2Proof/Word.lean ====
section
/-! DEFINITION. The word types of FreeChaF CORE (00_scope.md R7 to R9). -/

namespace Sys2Proof

/-- A byte: the width of A, of a memory byte, of a scratchpad byte and of a port latch. -/
abbrev Byte := BitVec 8

/-- A 16-bit address: the width of PC0, PC1, DC0 and DC1 (10_state.md R112 to R115). -/
abbrev Addr := BitVec 16

/-- A scratchpad index 0..63, the width of ISAR (10_state.md R110, R120). -/
abbrev SpIndex := BitVec 6

/-- A port number that has a latch, 0..63 (10_state.md R132). -/
abbrev PortNo := BitVec 6

end Sys2Proof
end

