-- ==== Sys2Proof/Syntax.lean ====
section
/-! DEFINITION. The instructions: one constructor for each row of spec/opcode_table.json (30_encoding.md R320,
R321). A constructor carries the operand fields of its row at the width the spec gives the field (R304, R305). -/

namespace Sys2Proof

/-- An instruction of FreeChaF CORE. -/
inductive Instr where
  /-- LR A,KU; opcode 0x00, mask 0xFF (41_register_transfer.md R401). -/
  | lrAKU
  /-- LR A,KL; opcode 0x01, mask 0xFF (41_register_transfer.md R402). -/
  | lrAKL
  /-- LR A,QU; opcode 0x02, mask 0xFF (41_register_transfer.md R403). -/
  | lrAQU
  /-- LR A,QL; opcode 0x03, mask 0xFF (41_register_transfer.md R404). -/
  | lrAQL
  /-- LR KU,A; opcode 0x04, mask 0xFF (41_register_transfer.md R405). -/
  | lrKUA
  /-- LR KL,A; opcode 0x05, mask 0xFF (41_register_transfer.md R406). -/
  | lrKLA
  /-- LR QU,A; opcode 0x06, mask 0xFF (41_register_transfer.md R407). -/
  | lrQUA
  /-- LR QL,A; opcode 0x07, mask 0xFF (41_register_transfer.md R408). -/
  | lrQLA
  /-- LR K,P; opcode 0x08, mask 0xFF (44_control_transfer.md R615). -/
  | lrKP
  /-- LR P,K; opcode 0x09, mask 0xFF (44_control_transfer.md R616). -/
  | lrPK
  /-- LR A,IS; opcode 0x0A, mask 0xFF (41_register_transfer.md R409). -/
  | lrAIS
  /-- LR IS,A; opcode 0x0B, mask 0xFF (41_register_transfer.md R410). -/
  | lrISA
  /-- PK; opcode 0x0C, mask 0xFF (44_control_transfer.md R612). -/
  | pk
  /-- LR P0,Q; opcode 0x0D, mask 0xFF (44_control_transfer.md R614). -/
  | lrP0Q
  /-- LR Q,DC; opcode 0x0E, mask 0xFF (41_register_transfer.md R411). -/
  | lrQDC
  /-- LR DC,Q; opcode 0x0F, mask 0xFF (41_register_transfer.md R412). -/
  | lrDCQ
  /-- LR DC,H; opcode 0x10, mask 0xFF (41_register_transfer.md R413). -/
  | lrDCH
  /-- LR H,DC; opcode 0x11, mask 0xFF (41_register_transfer.md R414). -/
  | lrHDC
  /-- SR 1; opcode 0x12, mask 0xFF (43_alu.md R510). -/
  | sr1
  /-- SL 1; opcode 0x13, mask 0xFF (43_alu.md R511). -/
  | sl1
  /-- SR 4; opcode 0x14, mask 0xFF (43_alu.md R512). -/
  | sr4
  /-- SL 4; opcode 0x15, mask 0xFF (43_alu.md R513). -/
  | sl4
  /-- LM; opcode 0x16, mask 0xFF (42_memory_reference.md R450). -/
  | lm
  /-- ST; opcode 0x17, mask 0xFF (42_memory_reference.md R451). -/
  | st
  /-- COM; opcode 0x18, mask 0xFF (43_alu.md R514). -/
  | com
  /-- LNK; opcode 0x19, mask 0xFF (43_alu.md R515). -/
  | lnk
  /-- DI; opcode 0x1A, mask 0xFF (45_io_system.md R660). -/
  | di
  /-- EI; opcode 0x1B, mask 0xFF (45_io_system.md R661). -/
  | ei
  /-- POP; opcode 0x1C, mask 0xFF (44_control_transfer.md R613). -/
  | pop
  /-- LR W,J; opcode 0x1D, mask 0xFF (41_register_transfer.md R415). -/
  | lrWJ
  /-- LR J,W; opcode 0x1E, mask 0xFF (41_register_transfer.md R416). -/
  | lrJW
  /-- INC; opcode 0x1F, mask 0xFF (43_alu.md R516). -/
  | inc
  /-- LI ii; opcode 0x20, mask 0xFF (41_register_transfer.md R422). -/
  | li (imm : Byte)
  /-- NI ii; opcode 0x21, mask 0xFF (43_alu.md R517). -/
  | ni (imm : Byte)
  /-- OI ii; opcode 0x22, mask 0xFF (43_alu.md R518). -/
  | oi (imm : Byte)
  /-- XI ii; opcode 0x23, mask 0xFF (43_alu.md R519). -/
  | xi (imm : Byte)
  /-- AI ii; opcode 0x24, mask 0xFF (43_alu.md R520). -/
  | ai (imm : Byte)
  /-- CI ii; opcode 0x25, mask 0xFF (43_alu.md R521). -/
  | ci (imm : Byte)
  /-- IN aa; opcode 0x26, mask 0xFF (45_io_system.md R650). -/
  | inAa (port : Byte)
  /-- OUT aa; opcode 0x27, mask 0xFF (45_io_system.md R651). -/
  | outAa (port : Byte)
  /-- PI aaaa; opcode 0x28, mask 0xFF (44_control_transfer.md R611). -/
  | pi (addr : Addr)
  /-- JMP aaaa; opcode 0x29, mask 0xFF (44_control_transfer.md R610). -/
  | jmp (addr : Addr)
  /-- DCI aaaa; opcode 0x2A, mask 0xFF (41_register_transfer.md R423). -/
  | dci (addr : Addr)
  /-- NOP; opcode 0x2B, mask 0xFF (45_io_system.md R662). -/
  | nop
  /-- XDC; opcode 0x2C, mask 0xFF (41_register_transfer.md R424). -/
  | xdc
  /-- DS r, direct, r in 0..7; opcode 0x30, mask 0xF8 (43_alu.md R522). -/
  | dsLow (r : BitVec 4)
  /-- DS r, direct, r in 8..11; opcode 0x38, mask 0xFC (43_alu.md R522). -/
  | dsHigh (r : BitVec 4)
  /-- DS S; opcode 0x3C, mask 0xFF (43_alu.md R522). -/
  | dsS
  /-- DS I; opcode 0x3D, mask 0xFF (43_alu.md R522). -/
  | dsI
  /-- DS D; opcode 0x3E, mask 0xFF (43_alu.md R522). -/
  | dsD
  /-- LR A,r, direct, r in 0..7; opcode 0x40, mask 0xF8 (41_register_transfer.md R417). -/
  | lrALow (r : BitVec 4)
  /-- LR A,r, direct, r in 8..11; opcode 0x48, mask 0xFC (41_register_transfer.md R417). -/
  | lrAHigh (r : BitVec 4)
  /-- LR A,S; opcode 0x4C, mask 0xFF (41_register_transfer.md R417). -/
  | lrAS
  /-- LR A,I; opcode 0x4D, mask 0xFF (41_register_transfer.md R417). -/
  | lrAI
  /-- LR A,D; opcode 0x4E, mask 0xFF (41_register_transfer.md R417). -/
  | lrAD
  /-- LR r,A, direct, r in 0..7; opcode 0x50, mask 0xF8 (41_register_transfer.md R418). -/
  | lrLowA (r : BitVec 4)
  /-- LR r,A, direct, r in 8..11; opcode 0x58, mask 0xFC (41_register_transfer.md R418). -/
  | lrHighA (r : BitVec 4)
  /-- LR S,A; opcode 0x5C, mask 0xFF (41_register_transfer.md R418). -/
  | lrSA
  /-- LR I,A; opcode 0x5D, mask 0xFF (41_register_transfer.md R418). -/
  | lrIA
  /-- LR D,A; opcode 0x5E, mask 0xFF (41_register_transfer.md R418). -/
  | lrDA
  /-- LISU i; opcode 0x60, mask 0xF8 (41_register_transfer.md R419). -/
  | lisu (i : BitVec 3)
  /-- LISL i; opcode 0x68, mask 0xF8 (41_register_transfer.md R420). -/
  | lisl (i : BitVec 3)
  /-- LIS i; opcode 0x70, mask 0xF0 (41_register_transfer.md R421). -/
  | lis (i : BitVec 4)
  /-- BT t,n; opcode 0x80, mask 0xF8 (44_control_transfer.md R620). -/
  | bt (t : BitVec 3) (n : Byte)
  /-- AM; opcode 0x88, mask 0xFF (42_memory_reference.md R452). -/
  | am
  /-- AMD; opcode 0x89, mask 0xFF (42_memory_reference.md R453). -/
  | amd
  /-- NM; opcode 0x8A, mask 0xFF (42_memory_reference.md R454). -/
  | nm
  /-- OM; opcode 0x8B, mask 0xFF (42_memory_reference.md R455). -/
  | om
  /-- XM; opcode 0x8C, mask 0xFF (42_memory_reference.md R456). -/
  | xm
  /-- CM; opcode 0x8D, mask 0xFF (42_memory_reference.md R457). -/
  | cm
  /-- ADC; opcode 0x8E, mask 0xFF (41_register_transfer.md R425). -/
  | adc
  /-- BR7 n; opcode 0x8F, mask 0xFF (44_control_transfer.md R624). -/
  | br7 (n : Byte)
  /-- BF t,n; opcode 0x90, mask 0xF0 (44_control_transfer.md R622). -/
  | bf (t : BitVec 4) (n : Byte)
  /-- INS P, P in 0..1; opcode 0xA0, mask 0xFE (45_io_system.md R652). -/
  | ins01 (p : BitVec 4)
  /-- INS P, P in 2..3; opcode 0xA2, mask 0xFE (45_io_system.md R652). -/
  | ins23 (p : BitVec 4)
  /-- INS P, P in 4..7; opcode 0xA4, mask 0xFC (45_io_system.md R652). -/
  | ins47 (p : BitVec 4)
  /-- INS P, P in 8..15; opcode 0xA8, mask 0xF8 (45_io_system.md R652). -/
  | ins8F (p : BitVec 4)
  /-- OUTS P, P in 0..1; opcode 0xB0, mask 0xFE (45_io_system.md R653). -/
  | outs01 (p : BitVec 4)
  /-- OUTS P, P in 2..3; opcode 0xB2, mask 0xFE (45_io_system.md R653). -/
  | outs23 (p : BitVec 4)
  /-- OUTS P, P in 4..7; opcode 0xB4, mask 0xFC (45_io_system.md R653). -/
  | outs47 (p : BitVec 4)
  /-- OUTS P, P in 8..15; opcode 0xB8, mask 0xF8 (45_io_system.md R653). -/
  | outs8F (p : BitVec 4)
  /-- AS r, direct, r in 0..7; opcode 0xC0, mask 0xF8 (43_alu.md R523). -/
  | asLow (r : BitVec 4)
  /-- AS r, direct, r in 8..11; opcode 0xC8, mask 0xFC (43_alu.md R523). -/
  | asHigh (r : BitVec 4)
  /-- AS S; opcode 0xCC, mask 0xFF (43_alu.md R523). -/
  | asS
  /-- AS I; opcode 0xCD, mask 0xFF (43_alu.md R523). -/
  | asI
  /-- AS D; opcode 0xCE, mask 0xFF (43_alu.md R523). -/
  | asD
  /-- ASD r, direct, r in 0..7; opcode 0xD0, mask 0xF8 (43_alu.md R524). -/
  | asdLow (r : BitVec 4)
  /-- ASD r, direct, r in 8..11; opcode 0xD8, mask 0xFC (43_alu.md R524). -/
  | asdHigh (r : BitVec 4)
  /-- ASD S; opcode 0xDC, mask 0xFF (43_alu.md R524). -/
  | asdS
  /-- ASD I; opcode 0xDD, mask 0xFF (43_alu.md R524). -/
  | asdI
  /-- ASD D; opcode 0xDE, mask 0xFF (43_alu.md R524). -/
  | asdD
  /-- XS r, direct, r in 0..7; opcode 0xE0, mask 0xF8 (43_alu.md R525). -/
  | xsLow (r : BitVec 4)
  /-- XS r, direct, r in 8..11; opcode 0xE8, mask 0xFC (43_alu.md R525). -/
  | xsHigh (r : BitVec 4)
  /-- XS S; opcode 0xEC, mask 0xFF (43_alu.md R525). -/
  | xsS
  /-- XS I; opcode 0xED, mask 0xFF (43_alu.md R525). -/
  | xsI
  /-- XS D; opcode 0xEE, mask 0xFF (43_alu.md R525). -/
  | xsD
  /-- NS r, direct, r in 0..7; opcode 0xF0, mask 0xF8 (43_alu.md R526). -/
  | nsLow (r : BitVec 4)
  /-- NS r, direct, r in 8..11; opcode 0xF8, mask 0xFC (43_alu.md R526). -/
  | nsHigh (r : BitVec 4)
  /-- NS S; opcode 0xFC, mask 0xFF (43_alu.md R526). -/
  | nsS
  /-- NS I; opcode 0xFD, mask 0xFF (43_alu.md R526). -/
  | nsI
  /-- NS D; opcode 0xFE, mask 0xFF (43_alu.md R526). -/
  | nsD
  /-- Undefined opcode 0x2D: a one-byte no-op (45_io_system.md R670). -/
  | undef2D
  /-- Undefined opcode 0x2E: a one-byte no-op (45_io_system.md R670). -/
  | undef2E
  /-- Undefined opcode 0x2F: a one-byte no-op (45_io_system.md R670). -/
  | undef2F
  /-- Undefined opcode 0x3F: a one-byte no-op (45_io_system.md R670). -/
  | undef3F
  /-- Undefined opcode 0x4F: a one-byte no-op (45_io_system.md R670). -/
  | undef4F
  /-- Undefined opcode 0x5F: a one-byte no-op (45_io_system.md R670). -/
  | undef5F
  /-- Undefined opcode 0xCF: a one-byte no-op (45_io_system.md R670). -/
  | undefCF
  /-- Undefined opcode 0xDF: a one-byte no-op (45_io_system.md R670). -/
  | undefDF
  /-- Undefined opcode 0xEF: a one-byte no-op (45_io_system.md R670). -/
  | undefEF
  /-- Undefined opcode 0xFF: a one-byte no-op (45_io_system.md R670). -/
  | undefFF
  deriving DecidableEq, Repr

end Sys2Proof
end

