-- ==== Sys2Proof/WellFormed.lean ====
section
/-! DEFINITION. Well-formed instructions: the operand fields that their row of spec/opcode_table.json restricts. -/

namespace Sys2Proof

/-- The field of a row that covers scratchpad operands 0..7 (mask 0xF8; 30_encoding.md R310, R321). -/
def fieldLow (r : BitVec 4) : Bool := decide (r.toNat ≤ 7)

/-- The field of a row that covers scratchpad operands 8..11 (mask 0xFC; 30_encoding.md R310, R321). -/
def fieldHigh (r : BitVec 4) : Bool := decide (8 ≤ r.toNat) && decide (r.toNat ≤ 11)

/-- A short port number within the ports that its row covers (45_io_system.md R652, R653). -/
def portIn (lo hi : Nat) (p : BitVec 4) : Bool := decide (lo ≤ p.toNat) && decide (p.toNat ≤ hi)

/-- An instruction some word of the opcode map stands for. Fields without a check take every value of their width. No
word decodes to an ill-formed instruction (log entry 17). -/
def Instr.wf : Instr → Bool
  | .dsLow r => fieldLow r
  | .dsHigh r => fieldHigh r
  | .lrALow r => fieldLow r
  | .lrAHigh r => fieldHigh r
  | .lrLowA r => fieldLow r
  | .lrHighA r => fieldHigh r
  | .ins01 p => portIn 0 1 p
  | .ins23 p => portIn 2 3 p
  | .ins47 p => portIn 4 7 p
  | .ins8F p => portIn 8 15 p
  | .outs01 p => portIn 0 1 p
  | .outs23 p => portIn 2 3 p
  | .outs47 p => portIn 4 7 p
  | .outs8F p => portIn 8 15 p
  | .asLow r => fieldLow r
  | .asHigh r => fieldHigh r
  | .asdLow r => fieldLow r
  | .asdHigh r => fieldHigh r
  | .xsLow r => fieldLow r
  | .xsHigh r => fieldHigh r
  | .nsLow r => fieldLow r
  | .nsHigh r => fieldHigh r
  | .lrAKU | .lrAKL | .lrAQU | .lrAQL | .lrKUA | .lrKLA | .lrQUA | .lrQLA | .lrKP | .lrPK | .lrAIS | .lrISA
  | .pk | .lrP0Q | .lrQDC | .lrDCQ | .lrDCH | .lrHDC | .sr1 | .sl1 | .sr4 | .sl4 | .lm | .st | .com | .lnk | .di
  | .ei | .pop | .lrWJ | .lrJW | .inc | .li _ | .ni _ | .oi _ | .xi _ | .ai _ | .ci _ | .inAa _ | .outAa _
  | .pi _ | .jmp _ | .dci _ | .nop | .xdc | .dsS | .dsI | .dsD | .lrAS | .lrAI | .lrAD | .lrSA | .lrIA | .lrDA
  | .lisu _ | .lisl _ | .lis _ | .bt _ _ | .am | .amd | .nm | .om | .xm | .cm | .adc | .br7 _ | .bf _ _ | .asS
  | .asI | .asD | .asdS | .asdI | .asdD | .xsS | .xsI | .xsD | .nsS | .nsI | .nsD | .undef2D | .undef2E
  | .undef2F | .undef3F | .undef4F | .undef5F | .undefCF | .undefDF | .undefEF | .undefFF => true

end Sys2Proof
end

