-- ==== Sys2Proof/Decode.lean ====
section
/-! DEFINITION. Reading an instruction from bytes, and writing it as bytes (30_encoding.md R300 to R321). -/

namespace Sys2Proof

/-- A 16-bit value from its two bytes, the high byte first (20_memory.md R216; 30_encoding.md R302). -/
def joinBytes (hi lo : Byte) : Addr := hi ++ lo

/-- The high byte of a 16-bit value. -/
def highByte (v : Addr) : Byte := v.extractLsb' 8 8

/-- The low byte of a 16-bit value. -/
def lowByte (v : Addr) : Byte := v.extractLsb' 0 8

/-- The instruction of a scratchpad row for a field value r (30_encoding.md R310): two direct ranges, the three
indirect forms, and the undefined opcode at 15. -/
def scratchRow (low high : BitVec 4 → Instr) (s i d undef : Instr) (r : BitVec 4) : Instr :=
  if r.toNat ≤ 7 then low r
  else if r.toNat ≤ 11 then high r
  else if r.toNat = 12 then s
  else if r.toNat = 13 then i
  else if r.toNat = 14 then d
  else undef

/-- DS r for r in 0..14, opcode 0x30 + r (43_alu.md R522); the undefined opcode 0x3F for 15. -/
def Instr.ds : BitVec 4 → Instr := scratchRow .dsLow .dsHigh .dsS .dsI .dsD .undef3F

/-- LR A,r for r in 0..14, opcode 0x40 + r (41_register_transfer.md R417); the undefined opcode 0x4F for 15. -/
def Instr.lrA : BitVec 4 → Instr := scratchRow .lrALow .lrAHigh .lrAS .lrAI .lrAD .undef4F

/-- LR r,A for r in 0..14, opcode 0x50 + r (41_register_transfer.md R418); the undefined opcode 0x5F for 15. -/
def Instr.lrTo : BitVec 4 → Instr := scratchRow .lrLowA .lrHighA .lrSA .lrIA .lrDA .undef5F

/-- AS r for r in 0..14, opcode 0xC0 + r (43_alu.md R523); the undefined opcode 0xCF for 15. -/
def Instr.addScratch : BitVec 4 → Instr := scratchRow .asLow .asHigh .asS .asI .asD .undefCF

/-- ASD r for r in 0..14, opcode 0xD0 + r (43_alu.md R524); the undefined opcode 0xDF for 15. -/
def Instr.asd : BitVec 4 → Instr := scratchRow .asdLow .asdHigh .asdS .asdI .asdD .undefDF

/-- XS r for r in 0..14, opcode 0xE0 + r (43_alu.md R525); the undefined opcode 0xEF for 15. -/
def Instr.xs : BitVec 4 → Instr := scratchRow .xsLow .xsHigh .xsS .xsI .xsD .undefEF

/-- NS r for r in 0..14, opcode 0xF0 + r (43_alu.md R526); the undefined opcode 0xFF for 15. -/
def Instr.ns : BitVec 4 → Instr := scratchRow .nsLow .nsHigh .nsS .nsI .nsD .undefFF

/-- INS P, opcode 0xA0 + P (45_io_system.md R652): the table splits the sixteen ports over four rows. -/
def Instr.ins (p : BitVec 4) : Instr :=
  if p.toNat ≤ 1 then .ins01 p else if p.toNat ≤ 3 then .ins23 p else if p.toNat ≤ 7 then .ins47 p else .ins8F p

/-- OUTS P, opcode 0xB0 + P (45_io_system.md R653): the table splits the sixteen ports over four rows. -/
def Instr.outs (p : BitVec 4) : Instr :=
  if p.toNat ≤ 1 then .outs01 p else if p.toNat ≤ 3 then .outs23 p else if p.toNat ≤ 7 then .outs47 p else .outs8F p

/-- Row 0x0_ of the opcode map (30_encoding.md R320). -/
def decodeRow0 : Nat → Instr
  | 0 => .lrAKU
  | 1 => .lrAKL
  | 2 => .lrAQU
  | 3 => .lrAQL
  | 4 => .lrKUA
  | 5 => .lrKLA
  | 6 => .lrQUA
  | 7 => .lrQLA
  | 8 => .lrKP
  | 9 => .lrPK
  | 10 => .lrAIS
  | 11 => .lrISA
  | 12 => .pk
  | 13 => .lrP0Q
  | 14 => .lrQDC
  | _ => .lrDCQ

/-- Row 0x1_ of the opcode map (30_encoding.md R320). -/
def decodeRow1 : Nat → Instr
  | 0 => .lrDCH
  | 1 => .lrHDC
  | 2 => .sr1
  | 3 => .sl1
  | 4 => .sr4
  | 5 => .sl4
  | 6 => .lm
  | 7 => .st
  | 8 => .com
  | 9 => .lnk
  | 10 => .di
  | 11 => .ei
  | 12 => .pop
  | 13 => .lrWJ
  | 14 => .lrJW
  | _ => .inc

/-- Row 0x2_ of the opcode map, with the two bytes after the opcode (30_encoding.md R320, R305). -/
def decodeRow2 (b1 b2 : Byte) : Nat → Instr
  | 0 => .li b1
  | 1 => .ni b1
  | 2 => .oi b1
  | 3 => .xi b1
  | 4 => .ai b1
  | 5 => .ci b1
  | 6 => .inAa b1
  | 7 => .outAa b1
  | 8 => .pi (joinBytes b1 b2)
  | 9 => .jmp (joinBytes b1 b2)
  | 10 => .dci (joinBytes b1 b2)
  | 11 => .nop
  | 12 => .xdc
  | 13 => .undef2D
  | 14 => .undef2E
  | _ => .undef2F

/-- Row 0x8_ of the opcode map: BT, the memory-reference arithmetic, ADC and BR7 (30_encoding.md R320). -/
def decodeRow8 (op b1 : Byte) : Nat → Instr
  | 8 => .am
  | 9 => .amd
  | 10 => .nm
  | 11 => .om
  | 12 => .xm
  | 13 => .cm
  | 14 => .adc
  | 15 => .br7 b1
  | _ => .bt (op.extractLsb' 0 3) b1

/-- The instruction an opcode byte selects, with the two bytes that follow it in the instruction stream; a byte
that the format does not take is not looked at. Total: every one of the 256 bytes selects a row (30_encoding.md
R303, R320, R321). -/
def decodeOpcode (op b1 b2 : Byte) : Instr :=
  match op.toNat / 16 with
  | 0 => decodeRow0 (op.toNat % 16)
  | 1 => decodeRow1 (op.toNat % 16)
  | 2 => decodeRow2 b1 b2 (op.toNat % 16)
  | 3 => .ds (op.extractLsb' 0 4)
  | 4 => .lrA (op.extractLsb' 0 4)
  | 5 => .lrTo (op.extractLsb' 0 4)
  | 6 => if op.getLsbD 3 then .lisl (op.extractLsb' 0 3) else .lisu (op.extractLsb' 0 3)
  | 7 => .lis (op.extractLsb' 0 4)
  | 8 => decodeRow8 op b1 (op.toNat % 16)
  | 9 => .bf (op.extractLsb' 0 4) b1
  | 10 => .ins (op.extractLsb' 0 4)
  | 11 => .outs (op.extractLsb' 0 4)
  | 12 => .addScratch (op.extractLsb' 0 4)
  | 13 => .asd (op.extractLsb' 0 4)
  | 14 => .xs (op.extractLsb' 0 4)
  | _ => .ns (op.extractLsb' 0 4)

/-- How many operand bytes follow an opcode byte (30_encoding.md R300, R304). -/
def operandCount (op : Byte) : Nat :=
  if 0x28 ≤ op.toNat ∧ op.toNat ≤ 0x2A then 2
  else if 0x20 ≤ op.toNat ∧ op.toNat ≤ 0x27 then 1
  else if 0x80 ≤ op.toNat ∧ op.toNat ≤ 0x87 then 1
  else if 0x8F ≤ op.toNat ∧ op.toNat ≤ 0x9F then 1
  else 0

/-- Why a list of bytes holds no whole instruction. No opcode byte is ever rejected (30_encoding.md R330). -/
inductive DecodeError where
  /-- There is no opcode byte. -/
  | noOpcode
  /-- The list ends before the operand bytes that the opcode takes. -/
  | missingOperand (op : Byte)
  deriving DecidableEq, Repr

/-- One instruction from the front of a list of bytes, and the bytes after it. -/
def decode : List Byte → Except DecodeError (Instr × List Byte)
  | [] => .error .noOpcode
  | op :: rest =>
    match operandCount op, rest with
    | 0, rest => .ok (decodeOpcode op 0 0, rest)
    | 1, b1 :: rest => .ok (decodeOpcode op b1 0, rest)
    | 2, b1 :: b2 :: rest => .ok (decodeOpcode op b1 b2, rest)
    | _, _ => .error (.missingOperand op)

/-- The opcode byte of an instruction (30_encoding.md R304, R320). -/
def opcode : Instr → Byte
  | .lrAKU => 0x00#8
  | .lrAKL => 0x01#8
  | .lrAQU => 0x02#8
  | .lrAQL => 0x03#8
  | .lrKUA => 0x04#8
  | .lrKLA => 0x05#8
  | .lrQUA => 0x06#8
  | .lrQLA => 0x07#8
  | .lrKP => 0x08#8
  | .lrPK => 0x09#8
  | .lrAIS => 0x0A#8
  | .lrISA => 0x0B#8
  | .pk => 0x0C#8
  | .lrP0Q => 0x0D#8
  | .lrQDC => 0x0E#8
  | .lrDCQ => 0x0F#8
  | .lrDCH => 0x10#8
  | .lrHDC => 0x11#8
  | .sr1 => 0x12#8
  | .sl1 => 0x13#8
  | .sr4 => 0x14#8
  | .sl4 => 0x15#8
  | .lm => 0x16#8
  | .st => 0x17#8
  | .com => 0x18#8
  | .lnk => 0x19#8
  | .di => 0x1A#8
  | .ei => 0x1B#8
  | .pop => 0x1C#8
  | .lrWJ => 0x1D#8
  | .lrJW => 0x1E#8
  | .inc => 0x1F#8
  | .li _ => 0x20#8
  | .ni _ => 0x21#8
  | .oi _ => 0x22#8
  | .xi _ => 0x23#8
  | .ai _ => 0x24#8
  | .ci _ => 0x25#8
  | .inAa _ => 0x26#8
  | .outAa _ => 0x27#8
  | .pi _ => 0x28#8
  | .jmp _ => 0x29#8
  | .dci _ => 0x2A#8
  | .nop => 0x2B#8
  | .xdc => 0x2C#8
  | .dsLow r => 0x30#8 ||| r.zeroExtend 8
  | .dsHigh r => 0x30#8 ||| r.zeroExtend 8
  | .dsS => 0x3C#8
  | .dsI => 0x3D#8
  | .dsD => 0x3E#8
  | .lrALow r => 0x40#8 ||| r.zeroExtend 8
  | .lrAHigh r => 0x40#8 ||| r.zeroExtend 8
  | .lrAS => 0x4C#8
  | .lrAI => 0x4D#8
  | .lrAD => 0x4E#8
  | .lrLowA r => 0x50#8 ||| r.zeroExtend 8
  | .lrHighA r => 0x50#8 ||| r.zeroExtend 8
  | .lrSA => 0x5C#8
  | .lrIA => 0x5D#8
  | .lrDA => 0x5E#8
  | .lisu i => 0x60#8 ||| i.zeroExtend 8
  | .lisl i => 0x68#8 ||| i.zeroExtend 8
  | .lis i => 0x70#8 ||| i.zeroExtend 8
  | .bt t _ => 0x80#8 ||| t.zeroExtend 8
  | .am => 0x88#8
  | .amd => 0x89#8
  | .nm => 0x8A#8
  | .om => 0x8B#8
  | .xm => 0x8C#8
  | .cm => 0x8D#8
  | .adc => 0x8E#8
  | .br7 _ => 0x8F#8
  | .bf t _ => 0x90#8 ||| t.zeroExtend 8
  | .ins01 p => 0xA0#8 ||| p.zeroExtend 8
  | .ins23 p => 0xA0#8 ||| p.zeroExtend 8
  | .ins47 p => 0xA0#8 ||| p.zeroExtend 8
  | .ins8F p => 0xA0#8 ||| p.zeroExtend 8
  | .outs01 p => 0xB0#8 ||| p.zeroExtend 8
  | .outs23 p => 0xB0#8 ||| p.zeroExtend 8
  | .outs47 p => 0xB0#8 ||| p.zeroExtend 8
  | .outs8F p => 0xB0#8 ||| p.zeroExtend 8
  | .asLow r => 0xC0#8 ||| r.zeroExtend 8
  | .asHigh r => 0xC0#8 ||| r.zeroExtend 8
  | .asS => 0xCC#8
  | .asI => 0xCD#8
  | .asD => 0xCE#8
  | .asdLow r => 0xD0#8 ||| r.zeroExtend 8
  | .asdHigh r => 0xD0#8 ||| r.zeroExtend 8
  | .asdS => 0xDC#8
  | .asdI => 0xDD#8
  | .asdD => 0xDE#8
  | .xsLow r => 0xE0#8 ||| r.zeroExtend 8
  | .xsHigh r => 0xE0#8 ||| r.zeroExtend 8
  | .xsS => 0xEC#8
  | .xsI => 0xED#8
  | .xsD => 0xEE#8
  | .nsLow r => 0xF0#8 ||| r.zeroExtend 8
  | .nsHigh r => 0xF0#8 ||| r.zeroExtend 8
  | .nsS => 0xFC#8
  | .nsI => 0xFD#8
  | .nsD => 0xFE#8
  | .undef2D => 0x2D#8
  | .undef2E => 0x2E#8
  | .undef2F => 0x2F#8
  | .undef3F => 0x3F#8
  | .undef4F => 0x4F#8
  | .undef5F => 0x5F#8
  | .undefCF => 0xCF#8
  | .undefDF => 0xDF#8
  | .undefEF => 0xEF#8
  | .undefFF => 0xFF#8

/-- The operand bytes after the opcode byte: an immediate, a port number or a displacement byte, or an address
with its high byte first (30_encoding.md R304, R305). -/
def operandBytes : Instr → List Byte
  | .li imm => [imm]
  | .ni imm => [imm]
  | .oi imm => [imm]
  | .xi imm => [imm]
  | .ai imm => [imm]
  | .ci imm => [imm]
  | .inAa port => [port]
  | .outAa port => [port]
  | .pi addr => [highByte addr, lowByte addr]
  | .jmp addr => [highByte addr, lowByte addr]
  | .dci addr => [highByte addr, lowByte addr]
  | .bt _ n => [n]
  | .br7 n => [n]
  | .bf _ n => [n]
  | .lrAKU | .lrAKL | .lrAQU | .lrAQL | .lrKUA | .lrKLA | .lrQUA | .lrQLA | .lrKP | .lrPK | .lrAIS | .lrISA
  | .pk | .lrP0Q | .lrQDC | .lrDCQ | .lrDCH | .lrHDC | .sr1 | .sl1 | .sr4 | .sl4 | .lm | .st | .com | .lnk | .di
  | .ei | .pop | .lrWJ | .lrJW | .inc | .nop | .xdc | .dsLow _ | .dsHigh _ | .dsS | .dsI | .dsD | .lrALow _
  | .lrAHigh _ | .lrAS | .lrAI | .lrAD | .lrLowA _ | .lrHighA _ | .lrSA | .lrIA | .lrDA | .lisu _ | .lisl _
  | .lis _ | .am | .amd | .nm | .om | .xm | .cm | .adc | .ins01 _ | .ins23 _ | .ins47 _ | .ins8F _ | .outs01 _
  | .outs23 _ | .outs47 _ | .outs8F _ | .asLow _ | .asHigh _ | .asS | .asI | .asD | .asdLow _ | .asdHigh _
  | .asdS | .asdI | .asdD | .xsLow _ | .xsHigh _ | .xsS | .xsI | .xsD | .nsLow _ | .nsHigh _ | .nsS | .nsI
  | .nsD | .undef2D | .undef2E | .undef2F | .undef3F | .undef4F | .undef5F | .undefCF | .undefDF | .undefEF
  | .undefFF => []

/-- The bytes of an instruction, in the order they are fetched (30_encoding.md R300, R304). -/
def encode (i : Instr) : List Byte := opcode i :: operandBytes i

/-- The instruction's length in bytes (30_encoding.md R300). -/
def Instr.length (i : Instr) : Nat := (encode i).length

/-- The instruction the decoder reads from w, numbered as spec/opcode_table.json numbers an instruction's bits:
bit 0 is the least significant bit of the first byte. Bits above nbits are 0. -/
def decodeTableWord (nbits w : Nat) : Option Instr :=
  let v := w % 2 ^ nbits
  match decode [BitVec.ofNat 8 v, BitVec.ofNat 8 (v / 2 ^ 8), BitVec.ofNat 8 (v / 2 ^ 16)] with
  | .ok (i, _) => some i
  | .error _ => none

/-- The (mask, match) pair of every row of spec/opcode_table.json, in the constructors' order (30_encoding.md R321). -/
def opcodeRows : List (Byte × Byte) :=
  [(0xff#8, 0x00#8), (0xff#8, 0x01#8), (0xff#8, 0x02#8), (0xff#8, 0x03#8), (0xff#8, 0x04#8)]
  ++ [(0xff#8, 0x05#8), (0xff#8, 0x06#8), (0xff#8, 0x07#8), (0xff#8, 0x08#8), (0xff#8, 0x09#8)]
  ++ [(0xff#8, 0x0a#8), (0xff#8, 0x0b#8), (0xff#8, 0x0c#8), (0xff#8, 0x0d#8), (0xff#8, 0x0e#8)]
  ++ [(0xff#8, 0x0f#8), (0xff#8, 0x10#8), (0xff#8, 0x11#8), (0xff#8, 0x12#8), (0xff#8, 0x13#8)]
  ++ [(0xff#8, 0x14#8), (0xff#8, 0x15#8), (0xff#8, 0x16#8), (0xff#8, 0x17#8), (0xff#8, 0x18#8)]
  ++ [(0xff#8, 0x19#8), (0xff#8, 0x1a#8), (0xff#8, 0x1b#8), (0xff#8, 0x1c#8), (0xff#8, 0x1d#8)]
  ++ [(0xff#8, 0x1e#8), (0xff#8, 0x1f#8), (0xff#8, 0x20#8), (0xff#8, 0x21#8), (0xff#8, 0x22#8)]
  ++ [(0xff#8, 0x23#8), (0xff#8, 0x24#8), (0xff#8, 0x25#8), (0xff#8, 0x26#8), (0xff#8, 0x27#8)]
  ++ [(0xff#8, 0x28#8), (0xff#8, 0x29#8), (0xff#8, 0x2a#8), (0xff#8, 0x2b#8), (0xff#8, 0x2c#8)]
  ++ [(0xf8#8, 0x30#8), (0xfc#8, 0x38#8), (0xff#8, 0x3c#8), (0xff#8, 0x3d#8), (0xff#8, 0x3e#8)]
  ++ [(0xf8#8, 0x40#8), (0xfc#8, 0x48#8), (0xff#8, 0x4c#8), (0xff#8, 0x4d#8), (0xff#8, 0x4e#8)]
  ++ [(0xf8#8, 0x50#8), (0xfc#8, 0x58#8), (0xff#8, 0x5c#8), (0xff#8, 0x5d#8), (0xff#8, 0x5e#8)]
  ++ [(0xf8#8, 0x60#8), (0xf8#8, 0x68#8), (0xf0#8, 0x70#8), (0xf8#8, 0x80#8), (0xff#8, 0x88#8)]
  ++ [(0xff#8, 0x89#8), (0xff#8, 0x8a#8), (0xff#8, 0x8b#8), (0xff#8, 0x8c#8), (0xff#8, 0x8d#8)]
  ++ [(0xff#8, 0x8e#8), (0xff#8, 0x8f#8), (0xf0#8, 0x90#8), (0xfe#8, 0xa0#8), (0xfe#8, 0xa2#8)]
  ++ [(0xfc#8, 0xa4#8), (0xf8#8, 0xa8#8), (0xfe#8, 0xb0#8), (0xfe#8, 0xb2#8), (0xfc#8, 0xb4#8)]
  ++ [(0xf8#8, 0xb8#8), (0xf8#8, 0xc0#8), (0xfc#8, 0xc8#8), (0xff#8, 0xcc#8), (0xff#8, 0xcd#8)]
  ++ [(0xff#8, 0xce#8), (0xf8#8, 0xd0#8), (0xfc#8, 0xd8#8), (0xff#8, 0xdc#8), (0xff#8, 0xdd#8)]
  ++ [(0xff#8, 0xde#8), (0xf8#8, 0xe0#8), (0xfc#8, 0xe8#8), (0xff#8, 0xec#8), (0xff#8, 0xed#8)]
  ++ [(0xff#8, 0xee#8), (0xf8#8, 0xf0#8), (0xfc#8, 0xf8#8), (0xff#8, 0xfc#8), (0xff#8, 0xfd#8)]
  ++ [(0xff#8, 0xfe#8), (0xff#8, 0x2d#8), (0xff#8, 0x2e#8), (0xff#8, 0x2f#8), (0xff#8, 0x3f#8)]
  ++ [(0xff#8, 0x4f#8), (0xff#8, 0x5f#8), (0xff#8, 0xcf#8), (0xff#8, 0xdf#8), (0xff#8, 0xef#8)]
  ++ [(0xff#8, 0xff#8)]

/-- The number of the instruction's row in opcodeRows. -/
def Instr.row : Instr → Nat
  | .lrAKU => 0
  | .lrAKL => 1
  | .lrAQU => 2
  | .lrAQL => 3
  | .lrKUA => 4
  | .lrKLA => 5
  | .lrQUA => 6
  | .lrQLA => 7
  | .lrKP => 8
  | .lrPK => 9
  | .lrAIS => 10
  | .lrISA => 11
  | .pk => 12
  | .lrP0Q => 13
  | .lrQDC => 14
  | .lrDCQ => 15
  | .lrDCH => 16
  | .lrHDC => 17
  | .sr1 => 18
  | .sl1 => 19
  | .sr4 => 20
  | .sl4 => 21
  | .lm => 22
  | .st => 23
  | .com => 24
  | .lnk => 25
  | .di => 26
  | .ei => 27
  | .pop => 28
  | .lrWJ => 29
  | .lrJW => 30
  | .inc => 31
  | .li _ => 32
  | .ni _ => 33
  | .oi _ => 34
  | .xi _ => 35
  | .ai _ => 36
  | .ci _ => 37
  | .inAa _ => 38
  | .outAa _ => 39
  | .pi _ => 40
  | .jmp _ => 41
  | .dci _ => 42
  | .nop => 43
  | .xdc => 44
  | .dsLow _ => 45
  | .dsHigh _ => 46
  | .dsS => 47
  | .dsI => 48
  | .dsD => 49
  | .lrALow _ => 50
  | .lrAHigh _ => 51
  | .lrAS => 52
  | .lrAI => 53
  | .lrAD => 54
  | .lrLowA _ => 55
  | .lrHighA _ => 56
  | .lrSA => 57
  | .lrIA => 58
  | .lrDA => 59
  | .lisu _ => 60
  | .lisl _ => 61
  | .lis _ => 62
  | .bt _ _ => 63
  | .am => 64
  | .amd => 65
  | .nm => 66
  | .om => 67
  | .xm => 68
  | .cm => 69
  | .adc => 70
  | .br7 _ => 71
  | .bf _ _ => 72
  | .ins01 _ => 73
  | .ins23 _ => 74
  | .ins47 _ => 75
  | .ins8F _ => 76
  | .outs01 _ => 77
  | .outs23 _ => 78
  | .outs47 _ => 79
  | .outs8F _ => 80
  | .asLow _ => 81
  | .asHigh _ => 82
  | .asS => 83
  | .asI => 84
  | .asD => 85
  | .asdLow _ => 86
  | .asdHigh _ => 87
  | .asdS => 88
  | .asdI => 89
  | .asdD => 90
  | .xsLow _ => 91
  | .xsHigh _ => 92
  | .xsS => 93
  | .xsI => 94
  | .xsD => 95
  | .nsLow _ => 96
  | .nsHigh _ => 97
  | .nsS => 98
  | .nsI => 99
  | .nsD => 100
  | .undef2D => 101
  | .undef2E => 102
  | .undef2F => 103
  | .undef3F => 104
  | .undef4F => 105
  | .undef5F => 106
  | .undefCF => 107
  | .undefDF => 108
  | .undefEF => 109
  | .undefFF => 110

/-- The rows of the table that an opcode byte matches: (b AND mask) = match (30_encoding.md R321). -/
def matchingRows (b : Byte) : List Nat :=
  (List.range opcodeRows.length).filter fun n =>
    let (mask, m) := opcodeRows.getD n (0, 0)
    b &&& mask == m

end Sys2Proof
end

