-- ==== Sys2Proof/Config.lean ====
section
/-! DEFINITION. The parameters of 00_scope.md R7 that the source leaves OPEN, the constraints the spec puts on
them, and the free values of the model. -/

namespace Sys2Proof

/-- A code of an element of the OPEN number type that the tone generator computes in (10_state.md R142: the
types of AMP and of the waveform are OPEN). The code 0 is the number 0. Its arithmetic is free:
`Config.toneAdd` and `Config.toneMul`, but that a product with 0 is 0 (`toneTimes`). DESIGN CHOICE, log entry 8. -/
abbrev ToneNum := Int

/-- One implementation's parameters: every row of 00_scope.md R7 whose value is OPEN. A function of a byte or
of a small field is held as the list of its values, so that the record is plain data (log entry 3). -/
structure Config where
  /-- COST(op, not taken), indexed by the opcode byte (70_reset_and_hazards.md R840). -/
  cost : List Nat
  /-- COST(op, taken), read for BT, BF and BR7 only (R840, R841). -/
  costTaken : List Nat
  /-- UNDEF_TICKS (45_io_system.md R670). -/
  undefTicks : Nat
  /-- FRAME_TICKS (60_exceptions.md R741). -/
  frameTicks : Nat
  /-- RAM_START, 0..0x10000 (20_memory.md R201 to R203). -/
  ramStart : Nat
  /-- FW_LO_BASE (20_memory.md R201). -/
  fwLoBase : Nat
  /-- FW_HI_BASE. -/
  fwHiBase : Nat
  /-- FW_SIZE. -/
  fwSize : Nat
  /-- CART_BASE. -/
  cartBase : Nat
  /-- MULTICART_IMAGE_SIZE (20_memory.md R215, R222). -/
  multicartImageSize : Nat
  /-- BANK_SELECT_ADDR (20_memory.md R220). -/
  bankSelectAddr : Addr
  /-- BANK_WINDOW_BASE (20_memory.md R221). -/
  bankWindowBase : Addr
  /-- PORT_ARM (60_exceptions.md R770). -/
  portArm : PortNo
  /-- PORT_COLOR. -/
  portColor : PortNo
  /-- PORT_X. -/
  portX : PortNo
  /-- PORT_Y. -/
  portY : PortNo
  /-- PORT_TONE (60_exceptions.md R780). -/
  portTone : PortNo
  /-- CONTROLLER_PORTS (60_exceptions.md R730). -/
  controllerPorts : List PortNo
  /-- EE_LO_PORTS (60_exceptions.md R760). -/
  eeLoPorts : List PortNo
  /-- EE_HI_PORTS. -/
  eeHiPorts : List PortNo
  /-- EE_RB_LO. -/
  eeRbLo : PortNo
  /-- EE_RB_HI. -/
  eeRbHi : PortNo
  /-- The bit of EE_STATE that EE_DIR reads (R760: "given by one bit of s"). -/
  eeDirBit : BitVec 4
  /-- The value of that bit that means write. -/
  eeDirWrite : Bool
  /-- EE_ADDR_BIT[0..9]: the bit positions of the address, bit 0 of the address first. -/
  eeAddrBit : List (BitVec 4)
  /-- The bit of EE_STATE that EE_DIN reads. -/
  eeDinBit : BitVec 4
  /-- EE_DOUT_BIT: the bit a read writes. -/
  eeDoutBit : BitVec 4
  /-- ARM_MASK (60_exceptions.md R772). -/
  armMask : Byte
  /-- ARM_FROM. -/
  armFrom : Byte
  /-- ARM_TO. -/
  armTo : Byte
  /-- COLOR_OF, indexed by the port value (60_exceptions.md R771). -/
  colorOf : List (BitVec 2)
  /-- X_OF, indexed by the port value. -/
  xOf : List (BitVec 7)
  /-- Y_OF, indexed by the port value. -/
  yOf : List (BitVec 6)
  /-- PAL_COLS[0] (60_exceptions.md R774). -/
  palCol0 : BitVec 7
  /-- PAL_COLS[1]. -/
  palCol1 : BitVec 7
  /-- PAL_SEL(a, b), at index 4 * a + b (60_exceptions.md R775). -/
  palSel : List (BitVec 2)
  /-- SUBPAL[0..15] (R775). -/
  subPal : List (BitVec 3)
  /-- OUTCOLOR[0..7], as codes of the host's colours (R775: their values are output rendering). -/
  outColor : List Nat
  /-- TONE_TABLE; its length is TABLE_LEN (60_exceptions.md R783). -/
  toneTable : List ToneNum
  /-- STRIDE1. -/
  stride1 : Nat
  /-- STRIDE2. -/
  stride2 : Nat
  /-- AMP_FULL (60_exceptions.md R780). -/
  ampFull : ToneNum
  /-- DECAY (R783). -/
  decay : ToneNum
  /-- TICK_STEP, in units of the last place of TACC (60_exceptions.md R782; log entry 9). -/
  tickStep : Nat
  /-- SAMPLE_THRESHOLD, in the same units. -/
  sampleThreshold : Nat
  /-- CLEAR_ENTRY (60_exceptions.md R750). -/
  clearEntry : Addr
  /-- CLEAR_REG: a scratchpad index (R750). -/
  clearReg : SpIndex
  /-- CLEAR_SELECTORS: the two selector values (R750). -/
  clearSelectors : Byte × Byte
  deriving DecidableEq, Repr, Inhabited

/-- TABLE_LEN (60_exceptions.md R783). -/
def Config.tableLen (c : Config) : Nat := c.toneTable.length

/-- NBANKS (20_memory.md R222). -/
def Config.nBanks (c : Config) : Nat := c.multicartImageSize / 0x2000

/-- The ports the EEPROM owns, read-back ports included (20_memory.md R236). -/
def Config.eePorts (c : Config) : List PortNo := c.eeRbLo :: c.eeRbHi :: (c.eeLoPorts ++ c.eeHiPorts)

/-- The four video ports and the tone port. -/
def Config.avPorts (c : Config) : List PortNo := [c.portArm, c.portColor, c.portX, c.portY, c.portTone]

/-- The opcode ranges, as (first opcode, count), whose opcodes are one instruction with an operand field: DS, LR A,r,
LR r,A, AS, ASD, XS and NS (r = 0..14), LISU, LISL, LIS, BT and BF. INS and OUTS are not among them: their cost depends
on the port (70_reset_and_hazards.md R841). -/
def Config.operandRanges : List (Nat × Nat) :=
  [(0x30, 15), (0x40, 15), (0x50, 15), (0xC0, 15), (0xD0, 15), (0xE0, 15), (0xF0, 15), (0x60, 8), (0x68, 8),
    (0x70, 16), (0x80, 8), (0x90, 16)]

/-- One cost throughout each of those ranges: neither the scratchpad form nor another operand field changes it
(R841). -/
def Config.costUniform (costs : List Nat) : Bool :=
  Config.operandRanges.all fun r => (List.range r.2).all fun k => costs.getD (r.1 + k) 0 == costs.getD r.1 0

/-- The constraints on costs: every entry is at least 1, an operand field leaves the cost as it is, and a taken BT or
BF costs more than one not taken (70_reset_and_hazards.md R841, R842). -/
def Config.costsValid (c : Config) : Bool :=
  c.cost.length == 256 && c.costTaken.length == 256 && decide (1 ≤ c.undefTicks)
    && c.cost.all (fun n => decide (1 ≤ n)) && c.costTaken.all (fun n => decide (1 ≤ n))
    && ((List.range 8).map (0x80 + ·) ++ (List.range 16).map (0x90 + ·)).all
        (fun op => decide (c.cost.getD op 0 < c.costTaken.getD op 0))
    && Config.costUniform c.cost && Config.costUniform c.costTaken

/-- The constraints on the memory map and the banking (00_scope.md R7; 20_memory.md R222). -/
def Config.memoryValid (c : Config) : Bool :=
  decide (c.ramStart ≤ 0x10000) && decide (1 ≤ c.nBanks) && c.multicartImageSize % 0x2000 == 0

/-- The constraints on the ports (20_memory.md R236; 60_exceptions.md R760, R770). That the two read-back ports
differ is DEDUCED from "two read-back ports" (log entry 2). -/
def Config.portsValid (c : Config) : Bool :=
  decide [c.portArm, c.portColor, c.portX, c.portY].Nodup
    && c.eeLoPorts.all (fun p => !c.eeHiPorts.contains p)
    && c.eePorts.all (fun p => !c.avPorts.contains p && !c.controllerPorts.contains p)
    && c.eeRbLo != c.eeRbHi

/-- The ten address bits are not contiguous (60_exceptions.md R760; 90_conflicts.md C10): they are no run of ten
consecutive bit positions, in whatever order. That order does not count is DEDUCED (log entry 2). -/
def Config.addrBitsScattered (bits : List (BitVec 4)) : Bool :=
  (List.range 7).all fun lo => bits.any fun b => decide (b.toNat < lo) || decide (lo + 10 ≤ b.toNat)

/-- The constraints on the EEPROM control word (60_exceptions.md R760): ten distinct address bits, of both bytes and
not contiguous, and a data-out bit that is none of the bits EE_DIR, EE_ADDR and EE_DIN read. -/
def Config.eepromValid (c : Config) : Bool :=
  c.eeAddrBit.length == 10 && decide c.eeAddrBit.Nodup
    && c.eeAddrBit.any (fun b => decide (b.toNat < 8)) && c.eeAddrBit.any (fun b => decide (8 ≤ b.toNat))
    && Config.addrBitsScattered c.eeAddrBit
    && c.eeDoutBit != c.eeDirBit && c.eeDoutBit != c.eeDinBit && !c.eeAddrBit.contains c.eeDoutBit

/-- The constraints on the video parameters (60_exceptions.md R771, R772, R774, R775): ARM_MASK has two bits,
ARM_FROM and ARM_TO are distinct within it, and the palette columns are two of the three trailer columns
(the last is DEDUCED, log entry 2). ARM_FROM may be 0: R772 does not exclude it, though R811 says that a pixel needs a
write giving ARM_FROM first, which VARM = 0 at reset then stands in for. DESIGN CHOICE, log entry 18 (safe). -/
def Config.videoValid (c : Config) : Bool :=
  ((List.range 8).filter c.armMask.getLsbD).length == 2
    && c.armFrom &&& c.armMask == c.armFrom && c.armTo &&& c.armMask == c.armTo && c.armFrom != c.armTo
    && c.colorOf.length == 256 && c.xOf.length == 256 && c.yOf.length == 256
    && decide (125 ≤ c.palCol0.toNat) && decide (125 ≤ c.palCol1.toNat) && c.palCol0 != c.palCol1
    && c.palSel.length == 16 && c.subPal.length == 16 && c.outColor.length == 8

/-- The constraints on the tone parameters (60_exceptions.md R782, R783): a non-empty table, and a positive
step and threshold. -/
def Config.toneValid (c : Config) : Bool :=
  decide (1 ≤ c.tableLen) && decide (1 ≤ c.tickStep) && decide (1 ≤ c.sampleThreshold)

/-- Every constraint the spec puts on the parameters; FRAME_TICKS is at least 1 (00_scope.md R7). -/
def Config.valid (c : Config) : Bool :=
  decide (1 ≤ c.frameTicks) && c.costsValid && c.memoryValid && c.portsValid && c.eepromValid
    && c.videoValid && c.toneValid

/-- Short and long machine cycles (nS, nL) of an opcode in the suggested table of 70_reset_and_hazards.md R840;
(0, 0) for the ten undefined opcodes, which cost UNDEF_TICKS instead. -/
def Config.suggestedCycles (op : Nat) (taken : Bool) : Nat × Nat :=
  if op ≤ 0x07 then (1, 0)
  else if op ≤ 0x09 then (1, 2)
  else if op ≤ 0x0B then (1, 0)
  else if op ≤ 0x11 then (1, 2)
  else if op ≤ 0x15 then (1, 0)
  else if op ≤ 0x17 then (1, 1)
  else if op ≤ 0x19 then (1, 0)
  else if op ≤ 0x1D then (2, 0)
  else if op ≤ 0x1F then (1, 0)
  else if op ≤ 0x25 then (1, 1)
  else if op ≤ 0x27 then (1, 2)
  else if op = 0x28 then (2, 3)
  else if op = 0x29 then (1, 3)
  else if op = 0x2A then (3, 2)
  else if op = 0x2B then (1, 0)
  else if op = 0x2C then (2, 0)
  else if op ≤ 0x2F then (0, 0)
  else if op ≤ 0x3E then (0, 1)
  else if op = 0x3F then (0, 0)
  else if op ≤ 0x4E then (1, 0)
  else if op = 0x4F then (0, 0)
  else if op ≤ 0x5E then (1, 0)
  else if op = 0x5F then (0, 0)
  else if op ≤ 0x7F then (1, 0)
  else if op ≤ 0x87 then (if taken then (2, 1) else (3, 0))
  else if op ≤ 0x8E then (1, 1)
  else if op = 0x8F then (if taken then (2, 1) else (2, 0))
  else if op ≤ 0x9F then (if taken then (2, 1) else (3, 0))
  else if op ≤ 0xA1 then (2, 0)
  else if op ≤ 0xAF then (1, 2)
  else if op ≤ 0xB1 then (2, 0)
  else if op ≤ 0xBF then (1, 2)
  else if op ≤ 0xCE then (1, 0)
  else if op = 0xCF then (0, 0)
  else if op ≤ 0xDE then (2, 0)
  else if op = 0xDF then (0, 0)
  else if op ≤ 0xEE then (1, 0)
  else if op = 0xEF then (0, 0)
  else if op ≤ 0xFE then (1, 0)
  else (0, 0)

/-- The suggested COST of 70_reset_and_hazards.md R840 from S_TICKS, L_TICKS and UNDEF_TICKS. Not normative: no
step of the model reads it unless a parameter record is built from it. -/
def Config.suggestedCost (sTicks lTicks undefTicks op : Nat) (taken : Bool) : Nat :=
  let (nS, nL) := Config.suggestedCycles op taken
  if nS + nL = 0 then undefTicks else nS * sTicks + nL * lTicks

/-- The inverting decodes that 60_exceptions.md R771 suggests, and the suggested PAL_SEL of R775. -/
def Config.suggestedColorOf (v : Nat) : BitVec 2 := BitVec.ofNat 2 ((v ^^^ 0xFF) >>> 6)
def Config.suggestedXOf (v : Nat) : BitVec 7 := BitVec.ofNat 7 (v ^^^ 0xFF)
def Config.suggestedYOf (v : Nat) : BitVec 6 := BitVec.ofNat 6 (v ^^^ 0xFF)
def Config.suggestedPalSel (i : Nat) : BitVec 2 := BitVec.ofNat 2 (((i / 4) &&& 2) >>> 1 ||| ((i % 4) &&& 2))

/-- The parameters that the test vectors of 95_test_vectors.md are premised on: the suggested values of
00_scope.md R7, RAM_START = 0x2800, FRAME_TICKS = 100, TICK_STEP = 1 with SAMPLE_THRESHOLD = 10, and the example
EEPROM layout E but for its address bits, which R760 wants scattered. What those vectors leave symbolic has a placeholder here. Used by tests, and as the
witness that valid parameters exist (log entry 2). -/
def Config.testVectors : Config where
  cost := (List.range 256).map (Config.suggestedCost 4 6 4 · false)
  costTaken := (List.range 256).map (Config.suggestedCost 4 6 4 · true)
  undefTicks := 4
  frameTicks := 100
  ramStart := 0x2800
  fwLoBase := 0x0000
  fwHiBase := 0x0400
  fwSize := 0x0400
  cartBase := 0x0800
  multicartImageSize := 0x4000
  bankSelectAddr := 0x0800#16
  bankWindowBase := 0x0800#16
  portArm := 0
  portColor := 1
  portX := 4
  portY := 5
  portTone := 5
  controllerPorts := [0, 1, 4]
  eeLoPorts := [0x20]
  eeHiPorts := [0x21]
  eeRbLo := 0x20
  eeRbHi := 0x21
  eeDirBit := 15
  eeDirWrite := true
  eeAddrBit := [0, 1, 2, 3, 4, 5, 6, 7, 9, 10]
  eeDinBit := 14
  eeDoutBit := 13
  armMask := 0x60
  armFrom := 0x60
  armTo := 0x40
  colorOf := (List.range 256).map Config.suggestedColorOf
  xOf := (List.range 256).map Config.suggestedXOf
  yOf := (List.range 256).map Config.suggestedYOf
  palCol0 := 125
  palCol1 := 126
  palSel := (List.range 16).map Config.suggestedPalSel
  subPal := [0, 1, 2, 3, 4, 5, 6, 7, 0, 1, 2, 3, 4, 5, 6, 7]
  outColor := [0, 1, 2, 3, 4, 5, 6, 7]
  toneTable := [0, 1, 2, 3]
  stride1 := 1
  stride2 := 2
  ampFull := 1
  decay := 1
  tickStep := 1
  sampleThreshold := 10
  clearEntry := 0x00D0#16
  clearReg := 3
  clearSelectors := (0xC6#8, 0x21#8)

/-- The parameters of the machine at hand, with no value: OPEN (00_scope.md R7; log entry 1). -/
opaque Config.openParameters : Config

/-- The OPEN parameters, restricted to records that meet the spec's constraints. Nothing more can be proved of
it: it may be any valid record (log entry 2). -/
def Config.parameters : Config :=
  if Config.openParameters.valid then Config.openParameters else Config.testVectors

/-- The n-th draw the host gives a controller port: one fresh 8-bit value under no law (60_exceptions.md R731;
log entry 7). -/
opaque Config.controllerDraw : Nat → Byte

/-- Addition in the tone generator's OPEN number type (60_exceptions.md R783; log entry 8). -/
opaque Config.toneAdd : ToneNum → ToneNum → ToneNum

/-- Multiplication of two numbers other than 0 in the tone generator's OPEN number type (60_exceptions.md R783; log
entry 8). -/
opaque Config.toneMul : ToneNum → ToneNum → ToneNum

/-- SAMPLE_OUT of a number other than 0: the OPEN scaling and saturation of a sample to its output code
(60_exceptions.md R783; log entry 8). -/
opaque Config.sampleOut : ToneNum → Int

end Sys2Proof
end

