-- ==== Sys2Proof/Machine/State.lean ====
section
/-! DEFINITION. The machine's state, its ways to stop, and the state after power-on reset (10_state.md,
70_reset_and_hazards.md R800 to R802). -/

namespace Sys2Proof.Machine

/-- Sparse storage of w-bit cells: (index, value) pairs. An index that is not listed reads as 0, the value the
spec gives every cell that nothing has loaded or written (20_memory.md R203, R214; 70_reset_and_hazards.md
R800). `Cells 8` is a list of `Host.Cell`. The canonical form is `Cells.wf` (Machine/Cells.lean). -/
abbrev Cells (w : Nat) := List (Nat × BitVec w)

/-- EE_RW, the EEPROM's direction flag (10_state.md R140). -/
inductive EeDirection where
  /-- The control word asks for a read. -/
  | read
  /-- The control word asks for a write. -/
  | write
  deriving DecidableEq, Repr

/-- The EEPROM's state (10_state.md R140). -/
structure Eeprom where
  /-- EE_MEM[0..1023], one bit a cell. -/
  mem : Cells 1
  /-- EE_STATE. -/
  state : BitVec 16
  /-- EE_A. -/
  addr : BitVec 10
  /-- EE_RW. -/
  rw : EeDirection
  deriving DecidableEq, Repr

/-- The video writer's state (10_state.md R141). -/
structure Video where
  /-- FB[0..8191], two bits a cell; cell (x, y) is at index y * 128 + x. -/
  fb : Cells 2
  /-- VX. -/
  x : BitVec 7
  /-- VY. -/
  y : BitVec 6
  /-- VCOLOR. -/
  color : BitVec 2
  /-- VARM. -/
  arm : Byte
  deriving DecidableEq, Repr

/-- The tone generator's state (10_state.md R142). -/
structure Tone where
  /-- TONE. -/
  select : BitVec 2
  /-- AMP, a code of the OPEN number type (log entry 8). -/
  amp : ToneNum
  /-- PHASE. -/
  phase : Nat
  /-- TACC, in units of its last place (log entry 9). -/
  tacc : Nat
  deriving DecidableEq, Repr

/-- Whether RunFrame is running (60_exceptions.md R741): the model's own, because one step of the model is one
turn of RunFrame's loop (log entry 5). -/
inductive FramePhase where
  /-- Inside RunFrame, with the loop's test `elapsed < budget` passed. -/
  | running
  /-- Outside RunFrame: before the first call, or after a call returned. -/
  | idle
  deriving DecidableEq, Repr

/-- The frame scheduler's state: DEBT (10_state.md R145), and where RunFrame stands (60_exceptions.md R741). -/
structure Scheduler where
  /-- DEBT. -/
  debt : Int
  /-- RunFrame's local `elapsed` (log entry 5); after the frame, its last value. -/
  elapsed : Nat
  /-- Whether RunFrame is running (log entry 5). -/
  phase : FramePhase
  deriving DecidableEq, Repr

/-- The HLE state and configuration (10_state.md R146). -/
structure Hle where
  /-- HLE_LO. -/
  lo : Bool
  /-- HLE_HI. -/
  hi : Bool
  /-- FAST_CLEAR. -/
  fastClear : Bool
  /-- CLEAR_ROW, 0 when idle. -/
  clearRow : Fin 64
  deriving DecidableEq, Repr

/-- One stereo sample pair of SAMPLES, as the codes SAMPLE_OUT gives (10_state.md R147; log entry
16). -/
structure StereoSample where
  /-- The left channel. -/
  left : Int
  /-- The right channel. -/
  right : Int
  deriving DecidableEq, Repr

/-- The machine's state (10_state.md R101). -/
structure State where
  /-- The parameters of 00_scope.md R7. They are no state of the hardware (R148): they stand here because a step
  takes a state alone, and no step changes them (log entry 1). -/
  cfg : Config
  /-- A (R102). -/
  a : Byte
  /-- W: bit 0 S, bit 1 C, bit 2 Z, bit 3 O, bit 4 ICB (R103). -/
  w : BitVec 5
  /-- ISAR (R110). -/
  isar : SpIndex
  /-- PC0 (R112). -/
  pc0 : Addr
  /-- PC1 (R113). -/
  pc1 : Addr
  /-- DC0 (R114). -/
  dc0 : Addr
  /-- DC1 (R115). -/
  dc1 : Addr
  /-- R[0..63] (R120). -/
  scratch : Vector Byte 64
  /-- MEM[0..65535] (R130). -/
  mem : Cells 8
  /-- BANKED (R131). -/
  banked : Bool
  /-- IMAGE (R131). -/
  image : List Byte
  /-- BANK (R131). -/
  bank : Byte
  /-- LATCH[0..63] (R132). -/
  latch : Vector Byte 64
  /-- The EEPROM (R140). -/
  eeprom : Eeprom
  /-- The video writer (R141). -/
  video : Video
  /-- The tone generator (R142). -/
  tone : Tone
  /-- The frame scheduler (R145). -/
  sched : Scheduler
  /-- The HLE configuration and cursor (R146). -/
  hle : Hle
  /-- SAMPLES (R147). -/
  samples : List StereoSample
  /-- FRAME_OUT, row by row; empty until a frame has ended (R147; 70_reset_and_hazards.md R800). -/
  frameOut : List (List Nat)
  /-- What the instruction last executed charged (70_reset_and_hazards.md R840); the model's own (log entry 4). -/
  ticks : Nat
  /-- How many controller draws have been taken (60_exceptions.md R731); the model's own (log entry 7). -/
  draws : Nat
  deriving DecidableEq, Repr

/-- Why the machine stops with a fault (60_exceptions.md R701). -/
inductive Fault where
  /-- Fault(PortOutOfRange(p)): raised by IN and OUT when the port operand p is 64..255 (20_memory.md R234); pc is
  PC0 then, two bytes past the opcode. Safe: the spec itself stops there, and no later step runs (log entry 10). -/
  | portOutOfRange (p : Byte) (pc : Addr)
  deriving DecidableEq, Repr

/-- Why the machine refuses a step. -/
inductive Refusal where
  /-- Refused(HleStep(pc)): raised by the scheduler before any fetch when the HLE predicate holds (60_exceptions.md
  R701, R751, R752); pc is PC0. Safe: HLE is outside the spec's scope (00_scope.md R6; log entry 14). -/
  | hleStep (pc : Addr)
  /-- An instruction with no meaning yet, by its mnemonic in spec/opcode_table.json: raised by exec only, and by no
  arm now. Safe. -/
  | notModelled (mnemonic : String)
  deriving DecidableEq, Repr

/-- What a meaning answers. -/
abbrev Result := Host.Outcome State Fault Refusal

/-- The machine right after a power-on reset (70_reset_and_hazards.md R800, R802), with nothing loaded, in the
configuration of 60_exceptions.md R752. The parameters are OPEN (log entries 1 and 2); the first RunFrame has not
been called yet (R810; log entry 5). -/
def State.reset : State where
  cfg := Config.parameters
  a := 0
  w := 0
  isar := 0
  pc0 := 0
  pc1 := 0
  dc0 := 0
  dc1 := 0
  scratch := Vector.replicate 64 0
  mem := []
  banked := false
  image := []
  bank := 0
  latch := Vector.replicate 64 0
  eeprom := { mem := [], state := 0, addr := 0, rw := .read }
  video := { fb := [], x := 0, y := 0, color := 0, arm := 0 }
  tone := { select := 0, amp := 0, phase := 0, tacc := 0 }
  sched := { debt := 0, elapsed := 0, phase := .idle }
  hle := { lo := false, hi := false, fastClear := false, clearRow := 0 }
  samples := []
  frameOut := []
  ticks := 0
  draws := 0

end Sys2Proof.Machine
end

