-- ==== Sys2Proof/Machine/Cells.lean ====
section
/-! DEFINITION. Reading and writing sparse cells, and their one canonical form. -/

namespace Sys2Proof.Machine

/-- The value of cell a: the first entry listed for it, or 0. -/
def Cells.read {w : Nat} : Cells w → Nat → BitVec w
  | [], _ => 0
  | (k, v) :: m, a => if a = k then v else Cells.read m a

/-- The cells without any entry for a. -/
def Cells.erase {w : Nat} (m : Cells w) (a : Nat) : Cells w := m.filter (fun e => e.1 != a)

/-- An entry put before the first entry of a higher index. -/
def Cells.insert {w : Nat} (a : Nat) (v : BitVec w) : Cells w → Cells w
  | [] => [(a, v)]
  | (k, x) :: m => if a < k then (a, v) :: (k, x) :: m else (k, x) :: Cells.insert a v m

/-- Cell a set to v; writing 0, which is what an unlisted cell reads as, removes the entry. -/
def Cells.write {w : Nat} (m : Cells w) (a : Nat) (v : BitVec w) : Cells w :=
  if v = 0 then m.erase a else Cells.insert a v (m.erase a)

/-- The cells below an index; the rest are 0 again. -/
def Cells.below {w : Nat} (m : Cells w) (limit : Nat) : Cells w := m.filter (fun e => decide (e.1 < limit))

/-- The canonical form from index lo on: indices strictly rise and stay below the bound, and no entry is 0. -/
def Cells.wfFrom {w : Nat} (bound : Nat) : Nat → Cells w → Bool
  | _, [] => true
  | lo, (k, v) :: m => decide (lo ≤ k) && decide (k < bound) && v != 0 && Cells.wfFrom bound (k + 1) m

/-- The canonical form of cells 0..bound-1. -/
def Cells.wf {w : Nat} (bound : Nat) (m : Cells w) : Bool := Cells.wfFrom bound 0 m

/-- The memory's canonical form: 65,536 bytes (10_state.md R130). -/
def Memory.wf (m : Cells 8) : Bool := Cells.wf 0x10000 m

end Sys2Proof.Machine
end

