-- ==== Sys2Proof/Machine/Flags.lean ====
section
/-! DEFINITION. The flag functions and the bits of W (43_alu.md R500 to R506; 10_state.md R103). -/

namespace Sys2Proof.Machine

/-- The flag record f of 43_alu.md R500. -/
structure FlagSet where
  /-- Sign, stored inverted: true when bit 7 of the result is 0. -/
  s : Bool
  /-- Carry. -/
  c : Bool
  /-- Zero. -/
  z : Bool
  /-- Overflow. -/
  o : Bool
  deriving DecidableEq, Repr

/-- W.S, bit 0 (10_state.md R104). -/
def State.flagS (s : State) : Bool := s.w.getLsbD 0

/-- W.C, bit 1 (R105). -/
def State.flagC (s : State) : Bool := s.w.getLsbD 1

/-- W.Z, bit 2 (R106). -/
def State.flagZ (s : State) : Bool := s.w.getLsbD 2

/-- W.O, bit 3 (R107). -/
def State.flagO (s : State) : Bool := s.w.getLsbD 3

/-- W.ICB, bit 4 (R108). -/
def State.flagICB (s : State) : Bool := s.w.getLsbD 4

/-- A flag as a bit of W at its place. -/
def flagBit (place : Nat) (b : Bool) : BitVec 5 := if b then BitVec.ofNat 5 (2 ^ place) else 0

/-- SetFlags(f): S, C, Z and O from f, ICB kept (43_alu.md R506). -/
def setFlags (f : FlagSet) (w : BitVec 5) : BitVec 5 :=
  (w &&& 0x10#5) ||| flagBit 3 f.o ||| flagBit 2 f.z ||| flagBit 1 f.c ||| flagBit 0 f.s

/-- Add8(a, b): the result and the flags of a 9-bit raw sum (43_alu.md R500). -/
def add8 (a b : Byte) : Byte × FlagSet :=
  let sum := a.toNat + b.toNat
  let r := BitVec.ofNat 8 sum
  (r, { c := sum.testBit 8, o := (a.msb == b.msb) && (r.msb != a.msb), z := r == 0, s := !r.msb })

/-- Sub8(a, b): a plus the 9-bit two's complement t of b, with the add's flags on a and t (43_alu.md R502). -/
def sub8 (a b : Byte) : Byte × FlagSet :=
  let t := (b ^^^ 0xFF#8).toNat + 1
  let sum := a.toNat + t
  let r := BitVec.ofNat 8 sum
  (r, { c := sum.testBit 8, o := (a.msb == t.testBit 7) && (r.msb != a.msb), z := r == 0, s := !r.msb })

/-- Logic8(r): carry and overflow cleared, zero and sign from the result (43_alu.md R503). -/
def logic8 (r : Byte) : Byte × FlagSet :=
  (r, { c := false, o := false, z := r == 0, s := !r.msb })

/-- DecAdd8(a, b): the flags of the binary add, and a nibble that did not carry out gets 0xA added modulo 16
(43_alu.md R504). -/
def decAdd8 (a b : Byte) : Byte × FlagSet :=
  let (sum, f) := add8 a b
  let c := (a.toNat + b.toNat).testBit 8
  let ic := decide ((a &&& 0x0F#8).toNat + (b &&& 0x0F#8).toNat ≥ 0x10)
  let hi := sum &&& 0xF0#8
  let lo := sum &&& 0x0F#8
  let hi := if c then hi else (hi + 0xA0#8) &&& 0xF0#8
  let lo := if ic then lo else (lo + 0x0A#8) &&& 0x0F#8
  (hi ||| lo, f)

/-- SetFlags on the state. -/
def State.withFlags (s : State) (f : FlagSet) : State := { s with w := setFlags f s.w }

end Sys2Proof.Machine
end

