-- ==== Sys2Proof/Machine/Ops.lean ====
section
/-! DEFINITION. The named operations over registers and memory that the instructions share, fetch, the charge of
ticks, and the one way an instruction stops. The hardware has no exception and no return from one (60_exceptions.md
R700), so there is no operation that takes one. -/

namespace Sys2Proof.Machine

/-- R[k] (10_state.md R120). -/
def State.sp (s : State) (k : SpIndex) : Byte := s.scratch[k.toNat]'k.isLt

/-- R[k] <- v (R120). -/
def State.setSp (s : State) (k : SpIndex) (v : Byte) : State :=
  { s with scratch := s.scratch.set k.toNat v k.isLt }

/-- J, byte 9 (R120). -/
def spJ : SpIndex := 9

/-- HU, byte 10, the high byte of H (R120). -/
def spHU : SpIndex := 10

/-- HL, byte 11. -/
def spHL : SpIndex := 11

/-- KU, byte 12, the high byte of K. -/
def spKU : SpIndex := 12

/-- KL, byte 13. -/
def spKL : SpIndex := 13

/-- QU, byte 14, the high byte of Q. -/
def spQU : SpIndex := 14

/-- QL, byte 15. -/
def spQL : SpIndex := 15

/-- The pair H = HU:HL (20_memory.md R216: the high byte at the lower index). -/
def State.pairH (s : State) : Addr := joinBytes (s.sp spHU) (s.sp spHL)

/-- The pair K = KU:KL. -/
def State.pairK (s : State) : Addr := joinBytes (s.sp spKU) (s.sp spKL)

/-- The pair Q = QU:QL. -/
def State.pairQ (s : State) : Addr := joinBytes (s.sp spQU) (s.sp spQL)

/-- H <- v. -/
def State.setPairH (s : State) (v : Addr) : State := (s.setSp spHU (highByte v)).setSp spHL (lowByte v)

/-- K <- v. -/
def State.setPairK (s : State) (v : Addr) : State := (s.setSp spKU (highByte v)).setSp spKL (lowByte v)

/-- Q <- v. -/
def State.setPairQ (s : State) (v : Addr) : State := (s.setSp spQU (highByte v)).setSp spQL (lowByte v)

/-- ISARL, the lower three bits of ISAR (10_state.md R110). -/
def State.isarL (s : State) : BitVec 3 := s.isar.extractLsb' 0 3

/-- ISARU, the upper three bits of ISAR (R110). -/
def State.isarU (s : State) : BitVec 3 := s.isar.extractLsb' 3 3

/-- BankIndex() (20_memory.md R222). -/
def State.bankIndex (s : State) : Nat := s.bank.toNat % s.cfg.nBanks

/-- The address is in the bank window of a banked machine (20_memory.md R210, R221). -/
def State.inBankWindow (s : State) (addr : Addr) : Bool :=
  s.banked && decide (s.cfg.bankWindowBase.toNat ≤ addr.toNat)
    && decide (addr.toNat < s.cfg.bankWindowBase.toNat + 0x2000)

/-- Where the byte that the bank window shows at addr lies in IMAGE (20_memory.md R210). -/
def State.imageOffset (s : State) (addr : Addr) : Nat :=
  s.bankIndex * 0x2000 + (addr.toNat - s.cfg.bankWindowBase.toNat)

/-- MemRead(addr, 1) (20_memory.md R210). A byte past the end of IMAGE, which no load leaves, reads as 0 (log
entry 12). -/
def State.memRead (s : State) (addr : Addr) : Byte :=
  if s.inBankWindow addr then s.image.getD (s.imageOffset addr) 0 else Cells.read s.mem addr.toNat

/-- MemWrite(addr, 1, v) (20_memory.md R212): a bank-select write sets BANK, and a write at or above RAM_START
writes MEM; any other write is dropped. -/
def State.memWrite (s : State) (addr : Addr) (v : Byte) : State :=
  { s with
    bank := if s.banked && addr == s.cfg.bankSelectAddr then v else s.bank
    mem := if s.cfg.ramStart ≤ addr.toNat then Cells.write s.mem addr.toNat v else s.mem }

/-- The memory operand: the byte at DC0 (42_memory_reference.md R458). -/
def State.operandAtDC (s : State) : Byte := s.memRead s.dc0

/-- DC0 advanced by one, modulo 2^16 (42_memory_reference.md R458). -/
def State.advanceDC (s : State) : State := { s with dc0 := s.dc0 + 1 }

/-- A and the flags from a result (A, f) of a flag function, as in `(A, f) <- Add8(A, v); SetFlags(f)`. -/
def State.setAcc (s : State) (r : Byte × FlagSet) : State := { s with a := r.1, w := setFlags r.2 s.w }

/-- COST(op, taken) (70_reset_and_hazards.md R840). -/
def cost (c : Config) (op : Byte) (taken : Bool) : Nat :=
  if taken then c.costTaken.getD op.toNat 0 else c.cost.getD op.toNat 0

/-- charge(COST(op, taken)) (R840). -/
def State.charge (s : State) (op : Byte) (taken : Bool) : State := { s with ticks := cost s.cfg op taken }

/-- charge(UNDEF_TICKS) (45_io_system.md R670). -/
def State.chargeUndef (s : State) : State := { s with ticks := s.cfg.undefTicks }

/-- The end of an instruction that is not a branch: it charges its opcode's cost, and the machine goes on. -/
def done (op : Byte) (s : State) : Result := .next (s.charge op false)

/-- raise Fault(PortOutOfRange(p)), with PC0 as it stands (20_memory.md R234; 60_exceptions.md R701, R702). -/
def raisePortOutOfRange (p : Byte) (s : State) : Result := .fault (.portOutOfRange p s.pc0)

/-- Relative(n) from PC0 past the displacement byte, by the source's formula (44_control_transfer.md R601). -/
def relative (pc : Addr) (n : Byte) : Addr :=
  let d : Int := if n.msb then -((((n - 1#8) ^^^ 0xFF#8).toNat : Int) + 1) else (n.toNat : Int) - 1
  BitVec.ofInt 16 ((pc.toNat : Int) + d)

/-- A relative branch whose displacement byte has been fetched: PC0 moves when the branch is taken, and the cost
depends on it (44_control_transfer.md R620, R622, R624). -/
def State.branch (s : State) (op n : Byte) (taken : Bool) : State :=
  { s with pc0 := if taken then relative s.pc0 n else s.pc0, ticks := cost s.cfg op taken }

/-- Fetch8() (30_encoding.md R301). -/
def fetch8 (s : State) : Byte × State := (s.memRead s.pc0, { s with pc0 := s.pc0 + 1 })

/-- The next instruction: its opcode byte and then its operand bytes, each read with Fetch8, and the state with
PC0 past them (30_encoding.md R301 to R303). An instruction does nothing before its last operand fetch, so its
meaning starts from that state (log entry 13). -/
def fetchInstr (s : State) : Instr × State :=
  let (op, s1) := fetch8 s
  match operandCount op with
  | 0 => (decodeOpcode op 0 0, s1)
  | 1 =>
    let (b1, s2) := fetch8 s1
    (decodeOpcode op b1 0, s2)
  | _ =>
    let (b1, s2) := fetch8 s1
    let (b2, s3) := fetch8 s2
    (decodeOpcode op b1 b2, s3)

end Sys2Proof.Machine
end

