-- ==== Sys2Proof/Machine/Operands.lean ====
section
/-! DEFINITION. The scratchpad operand forms (30_encoding.md R310 to R314). -/

namespace Sys2Proof.Machine

/-- The forms of a scratchpad operand (30_encoding.md R310). -/
inductive SpOperand where
  /-- Direct: R[r], the field of rows 0..7 and 8..11 (R311). -/
  | direct (r : BitVec 4)
  /-- S: R[ISAR], ISAR kept (field 12). -/
  | still
  /-- I: R[ISAR], then ISARL incremented modulo 8 (field 13). -/
  | postInc
  /-- D: R[ISAR], then ISARL decremented modulo 8 (field 14). -/
  | postDec
  deriving DecidableEq, Repr

/-- SpAddr(r): the scratchpad index of the operand (30_encoding.md R310 to R312). -/
def spAddr (o : SpOperand) (s : State) : SpIndex :=
  match o with
  | .direct r => r.zeroExtend 6
  | .still | .postInc | .postDec => s.isar

/-- ISAR with ISARL incremented modulo 8 and ISARU kept (30_encoding.md R313). -/
def isarInc (i : SpIndex) : SpIndex := (i &&& 0x38#6) ||| ((i + 1) &&& 0x07#6)

/-- ISAR with ISARL decremented modulo 8 and ISARU kept (30_encoding.md R313). -/
def isarDec (i : SpIndex) : SpIndex := (i &&& 0x38#6) ||| ((i - 1) &&& 0x07#6)

/-- SpPost(r): the post-modification of ISAR (30_encoding.md R313). -/
def spPost (o : SpOperand) (s : State) : State :=
  match o with
  | .direct _ | .still => s
  | .postInc => { s with isar := isarInc s.isar }
  | .postDec => { s with isar := isarDec s.isar }

end Sys2Proof.Machine
end

