-- ==== Sys2Proof/Machine/Alu.lean ====
section
/-! DEFINITION. The arithmetic and logic instructions (43_alu.md R510 to R527). -/

namespace Sys2Proof.Machine

/-- DS on an operand form: R[k] <- R[k] + 0xFF with the add's flags, then the post-modification (R522). -/
def State.decScratch (s : State) (o : SpOperand) : State :=
  let r := add8 (s.sp (spAddr o s)) 0xFF#8
  spPost o ((s.setSp (spAddr o s) r.1).withFlags r.2)

/-- An accumulator operation on an operand form: A and the flags from f A R[k], then the post-modification
(R523 to R526). -/
def State.accScratch (s : State) (o : SpOperand) (f : Byte → Byte → Byte × FlagSet) : State :=
  spPost o (s.setAcc (f s.a (s.sp (spAddr o s))))

/-- AS on an operand form (R523). -/
def State.addScratch (s : State) (o : SpOperand) : State := s.accScratch o add8

/-- ASD on an operand form (R524). -/
def State.decimalAddScratch (s : State) (o : SpOperand) : State := s.accScratch o decAdd8

/-- XS on an operand form (R525). -/
def State.xorScratch (s : State) (o : SpOperand) : State := s.accScratch o (fun a b => logic8 (a ^^^ b))

/-- NS on an operand form (R526). -/
def State.andScratch (s : State) (o : SpOperand) : State := s.accScratch o (fun a b => logic8 (a &&& b))

/-- SR 1: A shifted right one, bit 7 filled with 0 (43_alu.md R510). -/
def execSr1 (s : State) : Result := done 0x12#8 (s.setAcc (logic8 (s.a >>> 1)))

/-- SL 1: A shifted left one, bit 0 filled with 0 (43_alu.md R511). -/
def execSl1 (s : State) : Result := done 0x13#8 (s.setAcc (logic8 (s.a <<< 1)))

/-- SR 4: A shifted right four (43_alu.md R512). -/
def execSr4 (s : State) : Result := done 0x14#8 (s.setAcc (logic8 (s.a >>> 4)))

/-- SL 4: A shifted left four (43_alu.md R513). -/
def execSl4 (s : State) : Result := done 0x15#8 (s.setAcc (logic8 (s.a <<< 4)))

/-- COM: A XOR 0xFF (43_alu.md R514). -/
def execCom (s : State) : Result := done 0x18#8 (s.setAcc (logic8 (s.a ^^^ 0xFF#8)))

/-- LNK: A plus the carry, the add's flags (43_alu.md R515). -/
def execLnk (s : State) : Result := done 0x19#8 (s.setAcc (add8 s.a (if s.flagC then 1 else 0)))

/-- INC: A plus 1, the add's flags (43_alu.md R516). -/
def execInc (s : State) : Result := done 0x1F#8 (s.setAcc (add8 s.a 0x01#8))

/-- NI ii: A AND ii (43_alu.md R517). -/
def execNi (imm : Byte) (s : State) : Result := done 0x21#8 (s.setAcc (logic8 (s.a &&& imm)))

/-- OI ii: A OR ii (43_alu.md R518). -/
def execOi (imm : Byte) (s : State) : Result := done 0x22#8 (s.setAcc (logic8 (s.a ||| imm)))

/-- XI ii: A XOR ii (43_alu.md R519). -/
def execXi (imm : Byte) (s : State) : Result := done 0x23#8 (s.setAcc (logic8 (s.a ^^^ imm)))

/-- AI ii: A plus ii, the add's flags (43_alu.md R520). -/
def execAi (imm : Byte) (s : State) : Result := done 0x24#8 (s.setAcc (add8 s.a imm))

/-- CI ii: the flags of ii minus A; A is unchanged (43_alu.md R521). -/
def execCi (imm : Byte) (s : State) : Result := done 0x25#8 (s.withFlags (sub8 imm s.a).2)

/-- DS r, r in 0..7 (43_alu.md R522). -/
def execDsLow (r : BitVec 4) (s : State) : Result := done (0x30#8 ||| r.zeroExtend 8) (s.decScratch (.direct r))

/-- DS r, r in 8..11 (43_alu.md R522). -/
def execDsHigh (r : BitVec 4) (s : State) : Result := done (0x30#8 ||| r.zeroExtend 8) (s.decScratch (.direct r))

/-- DS r, r = 12 (43_alu.md R522). -/
def execDsS (s : State) : Result := done 0x3C#8 (s.decScratch .still)

/-- DS r, r = 13 (43_alu.md R522). -/
def execDsI (s : State) : Result := done 0x3D#8 (s.decScratch .postInc)

/-- DS r, r = 14 (43_alu.md R522). -/
def execDsD (s : State) : Result := done 0x3E#8 (s.decScratch .postDec)

/-- AS r, r in 0..7 (43_alu.md R523). -/
def execAsLow (r : BitVec 4) (s : State) : Result := done (0xC0#8 ||| r.zeroExtend 8) (s.addScratch (.direct r))

/-- AS r, r in 8..11 (43_alu.md R523). -/
def execAsHigh (r : BitVec 4) (s : State) : Result := done (0xC0#8 ||| r.zeroExtend 8) (s.addScratch (.direct r))

/-- AS r, r = 12 (43_alu.md R523). -/
def execAsS (s : State) : Result := done 0xCC#8 (s.addScratch .still)

/-- AS r, r = 13 (43_alu.md R523). -/
def execAsI (s : State) : Result := done 0xCD#8 (s.addScratch .postInc)

/-- AS r, r = 14 (43_alu.md R523). -/
def execAsD (s : State) : Result := done 0xCE#8 (s.addScratch .postDec)

/-- ASD r, r in 0..7 (43_alu.md R524). -/
def execAsdLow (r : BitVec 4) (s : State) : Result :=
  done (0xD0#8 ||| r.zeroExtend 8) (s.decimalAddScratch (.direct r))

/-- ASD r, r in 8..11 (43_alu.md R524). -/
def execAsdHigh (r : BitVec 4) (s : State) : Result :=
  done (0xD0#8 ||| r.zeroExtend 8) (s.decimalAddScratch (.direct r))

/-- ASD r, r = 12 (43_alu.md R524). -/
def execAsdS (s : State) : Result := done 0xDC#8 (s.decimalAddScratch .still)

/-- ASD r, r = 13 (43_alu.md R524). -/
def execAsdI (s : State) : Result := done 0xDD#8 (s.decimalAddScratch .postInc)

/-- ASD r, r = 14 (43_alu.md R524). -/
def execAsdD (s : State) : Result := done 0xDE#8 (s.decimalAddScratch .postDec)

/-- XS r, r in 0..7 (43_alu.md R525). -/
def execXsLow (r : BitVec 4) (s : State) : Result := done (0xE0#8 ||| r.zeroExtend 8) (s.xorScratch (.direct r))

/-- XS r, r in 8..11 (43_alu.md R525). -/
def execXsHigh (r : BitVec 4) (s : State) : Result := done (0xE0#8 ||| r.zeroExtend 8) (s.xorScratch (.direct r))

/-- XS r, r = 12 (43_alu.md R525). -/
def execXsS (s : State) : Result := done 0xEC#8 (s.xorScratch .still)

/-- XS r, r = 13 (43_alu.md R525). -/
def execXsI (s : State) : Result := done 0xED#8 (s.xorScratch .postInc)

/-- XS r, r = 14 (43_alu.md R525). -/
def execXsD (s : State) : Result := done 0xEE#8 (s.xorScratch .postDec)

/-- NS r, r in 0..7 (43_alu.md R526). -/
def execNsLow (r : BitVec 4) (s : State) : Result := done (0xF0#8 ||| r.zeroExtend 8) (s.andScratch (.direct r))

/-- NS r, r in 8..11 (43_alu.md R526). -/
def execNsHigh (r : BitVec 4) (s : State) : Result := done (0xF0#8 ||| r.zeroExtend 8) (s.andScratch (.direct r))

/-- NS r, r = 12 (43_alu.md R526). -/
def execNsS (s : State) : Result := done 0xFC#8 (s.andScratch .still)

/-- NS r, r = 13 (43_alu.md R526). -/
def execNsI (s : State) : Result := done 0xFD#8 (s.andScratch .postInc)

/-- NS r, r = 14 (43_alu.md R526). -/
def execNsD (s : State) : Result := done 0xFE#8 (s.andScratch .postDec)

end Sys2Proof.Machine
end

