-- ==== Sys2Proof/Machine/Control.lean ====
section
/-! DEFINITION. The control-transfer instructions (44_control_transfer.md R600 to R625). PC0 is past the instruction's
last byte when a meaning runs (R600). -/

namespace Sys2Proof.Machine

/-- JMP aaaa: A <- the high address byte, PC0 <- aaaa (44_control_transfer.md R610). -/
def execJmp (addr : Addr) (s : State) : Result := done 0x29#8 { s with a := highByte addr, pc0 := addr }

/-- PI aaaa: A <- the high address byte, PC1 <- the return address, PC0 <- aaaa (44_control_transfer.md R611). -/
def execPi (addr : Addr) (s : State) : Result := done 0x28#8 { s with a := highByte addr, pc1 := s.pc0, pc0 := addr }

/-- PK: PC1 <- the return address, PC0 <- K (44_control_transfer.md R612). -/
def execPk (s : State) : Result := done 0x0C#8 { s with pc1 := s.pc0, pc0 := s.pairK }

/-- POP: PC0 <- PC1 (44_control_transfer.md R613). -/
def execPop (s : State) : Result := done 0x1C#8 { s with pc0 := s.pc1 }

/-- LR P0,Q: PC0 <- Q (44_control_transfer.md R614). -/
def execLrP0Q (s : State) : Result := done 0x0D#8 { s with pc0 := s.pairQ }

/-- LR K,P: K <- PC1 (44_control_transfer.md R615). -/
def execLrKP (s : State) : Result := done 0x08#8 (s.setPairK s.pc1)

/-- LR P,K: PC1 <- K (44_control_transfer.md R616). -/
def execLrPK (s : State) : Result := done 0x09#8 { s with pc1 := s.pairK }

/-- BT t,n: taken when a flag of W[2:0] that t names is 1 (44_control_transfer.md R620). -/
def execBt (t : BitVec 3) (n : Byte) (s : State) : Result :=
  .next (s.branch (0x80#8 ||| t.zeroExtend 8) n (s.w.extractLsb' 0 3 &&& t != 0))

/-- BF t,n: taken when every flag of W[3:0] that t names is 0 (44_control_transfer.md R622). -/
def execBf (t : BitVec 4) (n : Byte) (s : State) : Result :=
  .next (s.branch (0x90#8 ||| t.zeroExtend 8) n (s.w.extractLsb' 0 4 &&& t == 0))

/-- BR7 n: taken unless ISARL is 7 (44_control_transfer.md R624). -/
def execBr7 (n : Byte) (s : State) : Result := .next (s.branch 0x8F#8 n (s.isarL != 7))

end Sys2Proof.Machine
end

