-- ==== Sys2Proof/Machine/EepromUnit.lean ====
section
/-! DEFINITION. The EEPROM: its control word and its poll (60_exceptions.md R760 to R764). -/

namespace Sys2Proof.Machine

/-- EE_DIR(s) (60_exceptions.md R760). -/
def eeDir (c : Config) (word : BitVec 16) : EeDirection :=
  if word.getLsbD c.eeDirBit.toNat == c.eeDirWrite then .write else .read

/-- The sum over the given bit positions of word[position i] << i: the address bits of EE_ADDR (R760). -/
def gatherBits (word : BitVec 16) : List (BitVec 4) → Nat
  | [] => 0
  | b :: bs => (if word.getLsbD b.toNat then 1 else 0) + 2 * gatherBits word bs

/-- EE_ADDR(s) (R760). -/
def eeAddr (c : Config) (word : BitVec 16) : BitVec 10 := BitVec.ofNat 10 (gatherBits word c.eeAddrBit)

/-- EE_DIN(s) (R760). -/
def eeDin (c : Config) (word : BitVec 16) : BitVec 1 := BitVec.ofBool (word.getLsbD c.eeDinBit.toNat)

/-- The port carries a control byte (R761). -/
def eeAddressed (c : Config) (p : PortNo) : Bool := c.eeLoPorts.contains p || c.eeHiPorts.contains p

/-- EE_STATE with the control byte of a write to port p put in (R761). -/
def eeLoad (c : Config) (p : PortNo) (v : Byte) (word : BitVec 16) : BitVec 16 :=
  if c.eeLoPorts.contains p then (word &&& 0xFF00#16) ||| v.zeroExtend 16
  else if c.eeHiPorts.contains p then (word &&& 0x00FF#16) ||| (v.zeroExtend 16 <<< 8)
  else word

/-- EE_STATE with bit EE_DOUT_BIT replaced (R762). -/
def eeSurface (c : Config) (b : BitVec 1) (word : BitVec 16) : BitVec 16 :=
  (word &&& ~~~(1#16 <<< c.eeDoutBit.toNat)) ||| (b.zeroExtend 16 <<< c.eeDoutBit.toNat)

/-- Eeprom.poll(), but for the two read-back latches (R762). -/
def eePoll (c : Config) (e : Eeprom) : Eeprom :=
  let addr := eeAddr c e.state
  match eeDir c e.state with
  | .write => { e with rw := .write, addr := addr, mem := Cells.write e.mem addr.toNat (eeDin c e.state) }
  | .read => { e with rw := .read, addr := addr, state := eeSurface c (Cells.read e.mem addr.toNat) e.state }

/-- Eeprom.receive(p, v), but for the two read-back latches (R761). -/
def eeReceive (c : Config) (p : PortNo) (v : Byte) (e : Eeprom) : Eeprom :=
  if eeAddressed c p then eePoll c { e with state := eeLoad c p v e.state } else e

end Sys2Proof.Machine
end

