-- ==== Sys2Proof/Machine/ToneUnit.lean ====
section
/-! DEFINITION. The tone generator (60_exceptions.md R780 to R784). Its number type and the arithmetic on it are
OPEN (10_state.md R142; log entry 8). -/

namespace Sys2Proof.Machine

/-- Tone.receive(p, v) (60_exceptions.md R780): a change of the selected tone restarts envelope and phase. -/
def toneReceive (c : Config) (p : PortNo) (v : Byte) (t : Tone) : Tone :=
  let n : BitVec 2 := v.extractLsb' 6 2
  if p = c.portTone ∧ n ≠ t.select then { t with select := n, amp := c.ampFull, phase := 0 } else t

/-- look(k) = TONE_TABLE[(PHASE * k) mod TABLE_LEN] (R783). -/
def toneLook (c : Config) (phase stride : Nat) : ToneNum := c.toneTable.getD (phase * stride % c.tableLen) 0

/-- The waveform value s of Tone.emit() (R781, R783): silence, one of two single tones, or their sum. -/
def toneValue (c : Config) (t : Tone) : ToneNum :=
  match t.select.toNat with
  | 0 => 0
  | 1 => toneLook c t.phase c.stride1
  | 2 => toneLook c t.phase c.stride2
  | _ => Config.toneAdd (toneLook c t.phase c.stride1) (toneLook c t.phase c.stride2)

/-- A product in the OPEN number type: 0 where a factor is 0, and free otherwise. So a silent tone's s * AMP is 0,
"a zero sample" (R783; DEDUCED, log entry 8). -/
def toneTimes (a b : ToneNum) : ToneNum := if a = 0 ∨ b = 0 then 0 else Config.toneMul a b

/-- SAMPLE_OUT (R783). The code 0 names the zero sample, SAMPLE_OUT(0), which silence emits (log entries 8 and 16). -/
def toneOut (x : ToneNum) : Int := if x = 0 then 0 else Config.sampleOut x

/-- The stereo pair Tone.emit() appends to SAMPLES (R783): both channels are SAMPLE_OUT(s * AMP). -/
def toneSample (c : Config) (t : Tone) : StereoSample :=
  let o := toneOut (toneTimes (toneValue c t) t.amp)
  { left := o, right := o }

/-- What Tone.emit() does to the generator: the envelope decays and the phase advances (R783). -/
def toneAfterEmit (c : Config) (t : Tone) : Tone :=
  { t with amp := toneTimes t.amp c.decay, phase := (t.phase + 1) % c.tableLen }

/-- Tone.emit() n times: the generator after, and the samples in order. -/
def toneEmits (c : Config) : Nat → Tone → Tone × List StereoSample
  | 0, t => (t, [])
  | n + 1, t =>
    let (t', out) := toneEmits c n (toneAfterEmit c t)
    (t', toneSample c t :: out)

/-- Tone.tick(n) (R782): TACC takes n * TICK_STEP, and one sample is emitted for each SAMPLE_THRESHOLD it then
holds. No emission reads TACC, so the loop of R782 is a division. -/
def toneTick (c : Config) (n : Nat) (t : Tone) : Tone × List StereoSample :=
  let total := t.tacc + n * c.tickStep
  toneEmits c (total / c.sampleThreshold) { t with tacc := total % c.sampleThreshold }

end Sys2Proof.Machine
end

