-- ==== Sys2Proof/Machine/VideoUnit.lean ====
section
/-! DEFINITION. The video writer and the palette resolution (60_exceptions.md R770 to R776). -/

namespace Sys2Proof.Machine

/-- COLOR_OF(v) (60_exceptions.md R771). -/
def colorOf (c : Config) (v : Byte) : BitVec 2 := c.colorOf.getD v.toNat 0

/-- X_OF(v) (R771). -/
def xOf (c : Config) (v : Byte) : BitVec 7 := c.xOf.getD v.toNat 0

/-- Y_OF(v) (R771). -/
def yOf (c : Config) (v : Byte) : BitVec 6 := c.yOf.getD v.toNat 0

/-- The index of cell (x, y) in FB (10_state.md R141). -/
def fbIndex (x : BitVec 7) (y : BitVec 6) : Nat := y.toNat * 128 + x.toNat

/-- Video.strobe(v) (R772): a transition of the masked value from ARM_FROM to ARM_TO plots one pixel. -/
def videoStrobe (c : Config) (v : Byte) (d : Video) : Video :=
  let m := v &&& c.armMask
  { d with
    fb := if d.arm == c.armFrom && m == c.armTo then Cells.write d.fb (fbIndex d.x d.y) d.color else d.fb
    arm := m }

/-- Video.receive(p, v) (R771). -/
def videoReceive (c : Config) (p : PortNo) (v : Byte) (d : Video) : Video :=
  let d := { d with
    color := if p = c.portColor then colorOf c v else d.color
    x := if p = c.portX then xOf c v else d.x
    y := if p = c.portY then yOf c v else d.y }
  if p = c.portArm then videoStrobe c v d else d

/-- The sub-palette of row y: PAL_SEL of its two palette cells (R776). -/
def rowPalette (c : Config) (fb : Cells 2) (y : Nat) : BitVec 2 :=
  let a := Cells.read fb (y * 128 + c.palCol0.toNat)
  let b := Cells.read fb (y * 128 + c.palCol1.toNat)
  c.palSel.getD (4 * a.toNat + b.toNat) 0

/-- FRAME_OUT[y][x]: the pixel through its row's sub-palette to an output colour (R776). -/
def resolveCell (c : Config) (fb : Cells 2) (y x : Nat) : Nat :=
  let entry := c.subPal.getD (4 * (rowPalette c fb y).toNat + (Cells.read fb (y * 128 + x)).toNat) 0
  c.outColor.getD entry.toNat 0

/-- ResolvePalette(): the whole 128 x 64 image, row by row (R776). -/
def resolvePalette (c : Config) (fb : Cells 2) : List (List Nat) :=
  (List.range 64).map fun y => (List.range 128).map fun x => resolveCell c fb y x

end Sys2Proof.Machine
end

