-- ==== Sys2Proof/Machine/Ports.lean ====
section
/-! DEFINITION. The port bus (20_memory.md R230 to R236; 60_exceptions.md R730, R731). -/

namespace Sys2Proof.Machine

/-- LATCH[p] (10_state.md R132). -/
def State.latchAt (s : State) (p : PortNo) : Byte := s.latch[p.toNat]'p.isLt

/-- LATCH[p] <- v: a bare write (20_memory.md R232), and the first half of a notify write (R231). -/
def setLatch (l : Vector Byte 64) (p : PortNo) (v : Byte) : Vector Byte 64 := l.set p.toNat v p.isLt

/-- CTRL(p): one fresh draw of the host at a controller port, 0 at any other (60_exceptions.md R731; the draw is a
free value, log entry 7). -/
def State.ctrl (s : State) (p : PortNo) : Byte :=
  if s.cfg.controllerPorts.contains p then Config.controllerDraw s.draws else 0

/-- PortRead(p): the latch ORed with the controller's value (20_memory.md R230). -/
def State.portRead (s : State) (p : PortNo) : Byte := s.latchAt p ||| s.ctrl p

/-- The state after PortRead(p): a read changes nothing of the machine's; the model counts the draw that a
controller port took (20_memory.md R230; log entry 7). -/
def State.afterPortRead (s : State) (p : PortNo) : State :=
  { s with draws := if s.cfg.controllerPorts.contains p then s.draws + 1 else s.draws }

/-- The two bare read-back writes of an EEPROM poll, lower byte first (20_memory.md R232; 60_exceptions.md R762,
R763); no poll follows a write to a port that carries no control byte. -/
def readBack (c : Config) (p : PortNo) (word : BitVec 16) (l : Vector Byte 64) : Vector Byte 64 :=
  if eeAddressed c p then setLatch (setLatch l c.eeRbLo (lowByte word)) c.eeRbHi (highByte word) else l

/-- PortWriteNotify(p, v): the latch, then every peripheral (20_memory.md R231). A peripheral touches its own state
only, but for the EEPROM's two read-back latches, which come after the write's own latch (R236; 60_exceptions.md
R763). -/
def State.portWriteNotify (s : State) (p : PortNo) (v : Byte) : State :=
  { s with
    latch := readBack s.cfg p (eeReceive s.cfg p v s.eeprom).state (setLatch s.latch p v)
    eeprom := eeReceive s.cfg p v s.eeprom
    video := videoReceive s.cfg p v s.video
    tone := toneReceive s.cfg p v s.tone }

/-- An input from port p: A and the flags from the byte read (45_io_system.md R650, R652). -/
def State.input (s : State) (p : PortNo) : State := (s.afterPortRead p).setAcc (logic8 (s.portRead p))

end Sys2Proof.Machine
end

