-- ==== Sys2Proof/Machine/Io.lean ====
section
/-! DEFINITION. Port I/O, the interrupt-enable flag, NOP and the undefined opcodes (45_io_system.md R650 to R670). -/

namespace Sys2Proof.Machine

/-- IN aa: A and the flags from port aa; a port of 64 or more stops the machine (45_io_system.md R650). -/
def execInAa (port : Byte) (s : State) : Result :=
  if port.toNat < 64 then done 0x26#8 (s.input (port.extractLsb' 0 6)) else raisePortOutOfRange port s

/-- OUT aa: a notify write of A to port aa; a port of 64 or more stops the machine (45_io_system.md R651). -/
def execOutAa (port : Byte) (s : State) : Result :=
  if port.toNat < 64 then done 0x27#8 (s.portWriteNotify (port.extractLsb' 0 6) s.a) else raisePortOutOfRange port s

/-- INS P for ports 0 and 1 (45_io_system.md R652). -/
def execIns01 (p : BitVec 4) (s : State) : Result := done (0xA0#8 ||| p.zeroExtend 8) (s.input (p.zeroExtend 6))

/-- INS P for ports 2 and 3 (45_io_system.md R652). -/
def execIns23 (p : BitVec 4) (s : State) : Result := done (0xA0#8 ||| p.zeroExtend 8) (s.input (p.zeroExtend 6))

/-- INS P for ports 4..7 (45_io_system.md R652). -/
def execIns47 (p : BitVec 4) (s : State) : Result := done (0xA0#8 ||| p.zeroExtend 8) (s.input (p.zeroExtend 6))

/-- INS P for ports 8..15 (45_io_system.md R652). -/
def execIns8F (p : BitVec 4) (s : State) : Result := done (0xA0#8 ||| p.zeroExtend 8) (s.input (p.zeroExtend 6))

/-- OUTS P for ports 0 and 1 (45_io_system.md R653). -/
def execOuts01 (p : BitVec 4) (s : State) : Result :=
  done (0xB0#8 ||| p.zeroExtend 8) (s.portWriteNotify (p.zeroExtend 6) s.a)

/-- OUTS P for ports 2 and 3 (45_io_system.md R653). -/
def execOuts23 (p : BitVec 4) (s : State) : Result :=
  done (0xB0#8 ||| p.zeroExtend 8) (s.portWriteNotify (p.zeroExtend 6) s.a)

/-- OUTS P for ports 4..7 (45_io_system.md R653). -/
def execOuts47 (p : BitVec 4) (s : State) : Result :=
  done (0xB0#8 ||| p.zeroExtend 8) (s.portWriteNotify (p.zeroExtend 6) s.a)

/-- OUTS P for ports 8..15 (45_io_system.md R653). -/
def execOuts8F (p : BitVec 4) (s : State) : Result :=
  done (0xB0#8 ||| p.zeroExtend 8) (s.portWriteNotify (p.zeroExtend 6) s.a)

/-- DI: ICB <- 0 (45_io_system.md R660). -/
def execDi (s : State) : Result := done 0x1A#8 { s with w := s.w &&& 0x0F#5 }

/-- EI: ICB <- 1 (45_io_system.md R661). -/
def execEi (s : State) : Result := done 0x1B#8 { s with w := s.w ||| 0x10#5 }

/-- NOP: nothing but the opcode fetch (45_io_system.md R662). -/
def execNop (s : State) : Result := done 0x2B#8 s

/-- Undefined opcode 0x2D: nothing but the opcode fetch, at a cost of UNDEF_TICKS (45_io_system.md R670). -/
def execUndef2D (s : State) : Result := .next s.chargeUndef

/-- Undefined opcode 0x2E: nothing but the opcode fetch, at a cost of UNDEF_TICKS (45_io_system.md R670). -/
def execUndef2E (s : State) : Result := .next s.chargeUndef

/-- Undefined opcode 0x2F: nothing but the opcode fetch, at a cost of UNDEF_TICKS (45_io_system.md R670). -/
def execUndef2F (s : State) : Result := .next s.chargeUndef

/-- Undefined opcode 0x3F: nothing but the opcode fetch, at a cost of UNDEF_TICKS (45_io_system.md R670). -/
def execUndef3F (s : State) : Result := .next s.chargeUndef

/-- Undefined opcode 0x4F: nothing but the opcode fetch, at a cost of UNDEF_TICKS (45_io_system.md R670). -/
def execUndef4F (s : State) : Result := .next s.chargeUndef

/-- Undefined opcode 0x5F: nothing but the opcode fetch, at a cost of UNDEF_TICKS (45_io_system.md R670). -/
def execUndef5F (s : State) : Result := .next s.chargeUndef

/-- Undefined opcode 0xCF: nothing but the opcode fetch, at a cost of UNDEF_TICKS (45_io_system.md R670). -/
def execUndefCF (s : State) : Result := .next s.chargeUndef

/-- Undefined opcode 0xDF: nothing but the opcode fetch, at a cost of UNDEF_TICKS (45_io_system.md R670). -/
def execUndefDF (s : State) : Result := .next s.chargeUndef

/-- Undefined opcode 0xEF: nothing but the opcode fetch, at a cost of UNDEF_TICKS (45_io_system.md R670). -/
def execUndefEF (s : State) : Result := .next s.chargeUndef

/-- Undefined opcode 0xFF: nothing but the opcode fetch, at a cost of UNDEF_TICKS (45_io_system.md R670). -/
def execUndefFF (s : State) : Result := .next s.chargeUndef

end Sys2Proof.Machine
end

