-- ==== Sys2Proof/Machine/MemoryRef.lean ====
section
/-! DEFINITION. The memory-reference instructions (42_memory_reference.md R450 to R458): one operand at DC0, read before
DC0 advances. -/

namespace Sys2Proof.Machine

/-- LM: A <- the byte at DC0, no flag; DC0 advances (42_memory_reference.md R450). -/
def execLm (s : State) : Result := done 0x16#8 ({ s.advanceDC with a := s.operandAtDC })

/-- ST: the byte at DC0 <- A; DC0 advances, whether or not the write was dropped (42_memory_reference.md R451). -/
def execSt (s : State) : Result := done 0x17#8 (s.memWrite s.dc0 s.a).advanceDC

/-- AM: A <- A + the byte at DC0, the add's flags; DC0 advances (42_memory_reference.md R452). -/
def execAm (s : State) : Result := done 0x88#8 (s.advanceDC.setAcc (add8 s.a s.operandAtDC))

/-- AMD: decimal add of the byte at DC0, the binary add's flags; DC0 advances (42_memory_reference.md R453). -/
def execAmd (s : State) : Result := done 0x89#8 (s.advanceDC.setAcc (decAdd8 s.a s.operandAtDC))

/-- NM: A <- A AND the byte at DC0; DC0 advances (42_memory_reference.md R454). -/
def execNm (s : State) : Result := done 0x8A#8 (s.advanceDC.setAcc (logic8 (s.a &&& s.operandAtDC)))

/-- OM: A <- A OR the byte at DC0; DC0 advances (42_memory_reference.md R455). -/
def execOm (s : State) : Result := done 0x8B#8 (s.advanceDC.setAcc (logic8 (s.a ||| s.operandAtDC)))

/-- XM: A <- A XOR the byte at DC0; DC0 advances (42_memory_reference.md R456). -/
def execXm (s : State) : Result := done 0x8C#8 (s.advanceDC.setAcc (logic8 (s.a ^^^ s.operandAtDC)))

/-- CM: the flags of the byte at DC0 minus A; A is unchanged, DC0 advances (42_memory_reference.md R457). -/
def execCm (s : State) : Result := done 0x8D#8 (s.advanceDC.withFlags (sub8 s.operandAtDC s.a).2)

end Sys2Proof.Machine
end

