-- ==== Sys2Proof/Machine/Transfer.lean ====
section
/-! DEFINITION. The register-transfer instructions (41_register_transfer.md R400 to R425). None writes a flag but LR W,J. -/

namespace Sys2Proof.Machine

/-- A <- v, no flag written (R400). -/
def State.loadA (s : State) (v : Byte) : State := { s with a := v }

/-- ISAR <- v. -/
def State.setIsar (s : State) (v : SpIndex) : State := { s with isar := v }

/-- W <- v, all five bits. -/
def State.setW (s : State) (v : BitVec 5) : State := { s with w := v }

/-- DC0 <- v. -/
def State.setDC (s : State) (v : Addr) : State := { s with dc0 := v }

/-- DC0 and DC1 exchanged (R424). -/
def State.swapDC (s : State) : State := { s with dc0 := s.dc1, dc1 := s.dc0 }

/-- LR A,r on an operand form: A <- R[SpAddr], then the post-modification (R417). -/
def State.loadFromScratch (s : State) (o : SpOperand) : State := spPost o (s.loadA (s.sp (spAddr o s)))

/-- LR r,A on an operand form: R[SpAddr] <- A, then the post-modification (R418). -/
def State.storeToScratch (s : State) (o : SpOperand) : State := spPost o (s.setSp (spAddr o s) s.a)

/-- LR A,KU: A <- R[12] (41_register_transfer.md R401). -/
def execLrAKU (s : State) : Result := done 0x00#8 (s.loadA (s.sp spKU))

/-- LR A,KL: A <- R[13] (41_register_transfer.md R402). -/
def execLrAKL (s : State) : Result := done 0x01#8 (s.loadA (s.sp spKL))

/-- LR A,QU: A <- R[14] (41_register_transfer.md R403). -/
def execLrAQU (s : State) : Result := done 0x02#8 (s.loadA (s.sp spQU))

/-- LR A,QL: A <- R[15] (41_register_transfer.md R404). -/
def execLrAQL (s : State) : Result := done 0x03#8 (s.loadA (s.sp spQL))

/-- LR KU,A: R[12] <- A (41_register_transfer.md R405). -/
def execLrKUA (s : State) : Result := done 0x04#8 (s.setSp spKU s.a)

/-- LR KL,A: R[13] <- A (41_register_transfer.md R406). -/
def execLrKLA (s : State) : Result := done 0x05#8 (s.setSp spKL s.a)

/-- LR QU,A: R[14] <- A (41_register_transfer.md R407). -/
def execLrQUA (s : State) : Result := done 0x06#8 (s.setSp spQU s.a)

/-- LR QL,A: R[15] <- A (41_register_transfer.md R408). -/
def execLrQLA (s : State) : Result := done 0x07#8 (s.setSp spQL s.a)

/-- LR A,IS: A <- ISAR, zero-extended (41_register_transfer.md R409). -/
def execLrAIS (s : State) : Result := done 0x0A#8 (s.loadA (s.isar.zeroExtend 8))

/-- LR IS,A: ISAR <- A AND 0x3F (41_register_transfer.md R410). -/
def execLrISA (s : State) : Result := done 0x0B#8 (s.setIsar (s.a.extractLsb' 0 6))

/-- LR Q,DC: Q <- DC0 (41_register_transfer.md R411). -/
def execLrQDC (s : State) : Result := done 0x0E#8 (s.setPairQ s.dc0)

/-- LR DC,Q: DC0 <- Q (41_register_transfer.md R412). -/
def execLrDCQ (s : State) : Result := done 0x0F#8 (s.setDC s.pairQ)

/-- LR DC,H: DC0 <- H (41_register_transfer.md R413). -/
def execLrDCH (s : State) : Result := done 0x10#8 (s.setDC s.pairH)

/-- LR H,DC: H <- DC0 (41_register_transfer.md R414). -/
def execLrHDC (s : State) : Result := done 0x11#8 (s.setPairH s.dc0)

/-- LR W,J: W <- R[9] AND 0x1F, all five flags (41_register_transfer.md R415). -/
def execLrWJ (s : State) : Result := done 0x1D#8 (s.setW ((s.sp spJ).extractLsb' 0 5))

/-- LR J,W: R[9] <- W, zero-extended (41_register_transfer.md R416). -/
def execLrJW (s : State) : Result := done 0x1E#8 (s.setSp spJ (s.w.zeroExtend 8))

/-- LR A,r, r in 0..7 (41_register_transfer.md R417). -/
def execLrALow (r : BitVec 4) (s : State) : Result := done (0x40#8 ||| r.zeroExtend 8) (s.loadFromScratch (.direct r))

/-- LR A,r, r in 8..11 (41_register_transfer.md R417). -/
def execLrAHigh (r : BitVec 4) (s : State) : Result :=
  done (0x40#8 ||| r.zeroExtend 8) (s.loadFromScratch (.direct r))

/-- LR A,r, r = 12 (41_register_transfer.md R417). -/
def execLrAS (s : State) : Result := done 0x4C#8 (s.loadFromScratch .still)

/-- LR A,r, r = 13 (41_register_transfer.md R417). -/
def execLrAI (s : State) : Result := done 0x4D#8 (s.loadFromScratch .postInc)

/-- LR A,r, r = 14 (41_register_transfer.md R417). -/
def execLrAD (s : State) : Result := done 0x4E#8 (s.loadFromScratch .postDec)

/-- LR r,A, r in 0..7 (41_register_transfer.md R418). -/
def execLrLowA (r : BitVec 4) (s : State) : Result := done (0x50#8 ||| r.zeroExtend 8) (s.storeToScratch (.direct r))

/-- LR r,A, r in 8..11 (41_register_transfer.md R418). -/
def execLrHighA (r : BitVec 4) (s : State) : Result := done (0x50#8 ||| r.zeroExtend 8) (s.storeToScratch (.direct r))

/-- LR r,A, r = 12 (41_register_transfer.md R418). -/
def execLrSA (s : State) : Result := done 0x5C#8 (s.storeToScratch .still)

/-- LR r,A, r = 13 (41_register_transfer.md R418). -/
def execLrIA (s : State) : Result := done 0x5D#8 (s.storeToScratch .postInc)

/-- LR r,A, r = 14 (41_register_transfer.md R418). -/
def execLrDA (s : State) : Result := done 0x5E#8 (s.storeToScratch .postDec)

/-- LISU i: ISARU <- i, ISARL kept (41_register_transfer.md R419). -/
def execLisu (i : BitVec 3) (s : State) : Result :=
  done (0x60#8 ||| i.zeroExtend 8) (s.setIsar ((i.zeroExtend 6 <<< 3) ||| (s.isar &&& 0x07#6)))

/-- LISL i: ISARL <- i, ISARU kept (41_register_transfer.md R420). -/
def execLisl (i : BitVec 3) (s : State) : Result :=
  done (0x68#8 ||| i.zeroExtend 8) (s.setIsar ((s.isar &&& 0x38#6) ||| i.zeroExtend 6))

/-- LIS i: A <- i, zero-extended (41_register_transfer.md R421). -/
def execLis (i : BitVec 4) (s : State) : Result := done (0x70#8 ||| i.zeroExtend 8) (s.loadA (i.zeroExtend 8))

/-- LI ii: A <- ii (41_register_transfer.md R422). -/
def execLi (imm : Byte) (s : State) : Result := done 0x20#8 (s.loadA imm)

/-- DCI aaaa: DC0 <- aaaa (41_register_transfer.md R423). -/
def execDci (addr : Addr) (s : State) : Result := done 0x2A#8 (s.setDC addr)

/-- XDC: DC0 and DC1 exchanged, both read before either is written (41_register_transfer.md R424). -/
def execXdc (s : State) : Result := done 0x2C#8 (s.swapDC)

/-- ADC: DC0 <- DC0 + sext(A), modulo 2^16 (41_register_transfer.md R425). -/
def execAdc (s : State) : Result := done 0x8E#8 (s.setDC (s.dc0 + s.a.signExtend 16))

end Sys2Proof.Machine
end

