-- ==== Sys2Proof/Machine/Dispatch.lean ====
section
/-! DEFINITION. The dispatch: one arm for each constructor of Instr, one direct call of its meaning. -/

namespace Sys2Proof.Machine

/-- What one instruction does, from the state in which its bytes have been fetched (30_encoding.md R303). -/
def exec (i : Instr) (s : State) : Host.Outcome State Fault Refusal :=
  match i with
  | .lrAKU => Sys2Proof.Machine.execLrAKU s
  | .lrAKL => Sys2Proof.Machine.execLrAKL s
  | .lrAQU => Sys2Proof.Machine.execLrAQU s
  | .lrAQL => Sys2Proof.Machine.execLrAQL s
  | .lrKUA => Sys2Proof.Machine.execLrKUA s
  | .lrKLA => Sys2Proof.Machine.execLrKLA s
  | .lrQUA => Sys2Proof.Machine.execLrQUA s
  | .lrQLA => Sys2Proof.Machine.execLrQLA s
  | .lrKP => Sys2Proof.Machine.execLrKP s
  | .lrPK => Sys2Proof.Machine.execLrPK s
  | .lrAIS => Sys2Proof.Machine.execLrAIS s
  | .lrISA => Sys2Proof.Machine.execLrISA s
  | .pk => Sys2Proof.Machine.execPk s
  | .lrP0Q => Sys2Proof.Machine.execLrP0Q s
  | .lrQDC => Sys2Proof.Machine.execLrQDC s
  | .lrDCQ => Sys2Proof.Machine.execLrDCQ s
  | .lrDCH => Sys2Proof.Machine.execLrDCH s
  | .lrHDC => Sys2Proof.Machine.execLrHDC s
  | .sr1 => Sys2Proof.Machine.execSr1 s
  | .sl1 => Sys2Proof.Machine.execSl1 s
  | .sr4 => Sys2Proof.Machine.execSr4 s
  | .sl4 => Sys2Proof.Machine.execSl4 s
  | .lm => Sys2Proof.Machine.execLm s
  | .st => Sys2Proof.Machine.execSt s
  | .com => Sys2Proof.Machine.execCom s
  | .lnk => Sys2Proof.Machine.execLnk s
  | .di => Sys2Proof.Machine.execDi s
  | .ei => Sys2Proof.Machine.execEi s
  | .pop => Sys2Proof.Machine.execPop s
  | .lrWJ => Sys2Proof.Machine.execLrWJ s
  | .lrJW => Sys2Proof.Machine.execLrJW s
  | .inc => Sys2Proof.Machine.execInc s
  | .li imm => Sys2Proof.Machine.execLi imm s
  | .ni imm => Sys2Proof.Machine.execNi imm s
  | .oi imm => Sys2Proof.Machine.execOi imm s
  | .xi imm => Sys2Proof.Machine.execXi imm s
  | .ai imm => Sys2Proof.Machine.execAi imm s
  | .ci imm => Sys2Proof.Machine.execCi imm s
  | .inAa port => Sys2Proof.Machine.execInAa port s
  | .outAa port => Sys2Proof.Machine.execOutAa port s
  | .pi addr => Sys2Proof.Machine.execPi addr s
  | .jmp addr => Sys2Proof.Machine.execJmp addr s
  | .dci addr => Sys2Proof.Machine.execDci addr s
  | .nop => Sys2Proof.Machine.execNop s
  | .xdc => Sys2Proof.Machine.execXdc s
  | .dsLow r => Sys2Proof.Machine.execDsLow r s
  | .dsHigh r => Sys2Proof.Machine.execDsHigh r s
  | .dsS => Sys2Proof.Machine.execDsS s
  | .dsI => Sys2Proof.Machine.execDsI s
  | .dsD => Sys2Proof.Machine.execDsD s
  | .lrALow r => Sys2Proof.Machine.execLrALow r s
  | .lrAHigh r => Sys2Proof.Machine.execLrAHigh r s
  | .lrAS => Sys2Proof.Machine.execLrAS s
  | .lrAI => Sys2Proof.Machine.execLrAI s
  | .lrAD => Sys2Proof.Machine.execLrAD s
  | .lrLowA r => Sys2Proof.Machine.execLrLowA r s
  | .lrHighA r => Sys2Proof.Machine.execLrHighA r s
  | .lrSA => Sys2Proof.Machine.execLrSA s
  | .lrIA => Sys2Proof.Machine.execLrIA s
  | .lrDA => Sys2Proof.Machine.execLrDA s
  | .lisu n => Sys2Proof.Machine.execLisu n s
  | .lisl n => Sys2Proof.Machine.execLisl n s
  | .lis n => Sys2Proof.Machine.execLis n s
  | .bt t n => Sys2Proof.Machine.execBt t n s
  | .am => Sys2Proof.Machine.execAm s
  | .amd => Sys2Proof.Machine.execAmd s
  | .nm => Sys2Proof.Machine.execNm s
  | .om => Sys2Proof.Machine.execOm s
  | .xm => Sys2Proof.Machine.execXm s
  | .cm => Sys2Proof.Machine.execCm s
  | .adc => Sys2Proof.Machine.execAdc s
  | .br7 n => Sys2Proof.Machine.execBr7 n s
  | .bf t n => Sys2Proof.Machine.execBf t n s
  | .ins01 p => Sys2Proof.Machine.execIns01 p s
  | .ins23 p => Sys2Proof.Machine.execIns23 p s
  | .ins47 p => Sys2Proof.Machine.execIns47 p s
  | .ins8F p => Sys2Proof.Machine.execIns8F p s
  | .outs01 p => Sys2Proof.Machine.execOuts01 p s
  | .outs23 p => Sys2Proof.Machine.execOuts23 p s
  | .outs47 p => Sys2Proof.Machine.execOuts47 p s
  | .outs8F p => Sys2Proof.Machine.execOuts8F p s
  | .asLow r => Sys2Proof.Machine.execAsLow r s
  | .asHigh r => Sys2Proof.Machine.execAsHigh r s
  | .asS => Sys2Proof.Machine.execAsS s
  | .asI => Sys2Proof.Machine.execAsI s
  | .asD => Sys2Proof.Machine.execAsD s
  | .asdLow r => Sys2Proof.Machine.execAsdLow r s
  | .asdHigh r => Sys2Proof.Machine.execAsdHigh r s
  | .asdS => Sys2Proof.Machine.execAsdS s
  | .asdI => Sys2Proof.Machine.execAsdI s
  | .asdD => Sys2Proof.Machine.execAsdD s
  | .xsLow r => Sys2Proof.Machine.execXsLow r s
  | .xsHigh r => Sys2Proof.Machine.execXsHigh r s
  | .xsS => Sys2Proof.Machine.execXsS s
  | .xsI => Sys2Proof.Machine.execXsI s
  | .xsD => Sys2Proof.Machine.execXsD s
  | .nsLow r => Sys2Proof.Machine.execNsLow r s
  | .nsHigh r => Sys2Proof.Machine.execNsHigh r s
  | .nsS => Sys2Proof.Machine.execNsS s
  | .nsI => Sys2Proof.Machine.execNsI s
  | .nsD => Sys2Proof.Machine.execNsD s
  | .undef2D => Sys2Proof.Machine.execUndef2D s
  | .undef2E => Sys2Proof.Machine.execUndef2E s
  | .undef2F => Sys2Proof.Machine.execUndef2F s
  | .undef3F => Sys2Proof.Machine.execUndef3F s
  | .undef4F => Sys2Proof.Machine.execUndef4F s
  | .undef5F => Sys2Proof.Machine.execUndef5F s
  | .undefCF => Sys2Proof.Machine.execUndefCF s
  | .undefDF => Sys2Proof.Machine.execUndefDF s
  | .undefEF => Sys2Proof.Machine.execUndefEF s
  | .undefFF => Sys2Proof.Machine.execUndefFF s

end Sys2Proof.Machine
end

