-- ==== Sys2Proof/Machine/Scheduler.lean ====
section
/-! DEFINITION. The HLE predicate and the frame scheduler (60_exceptions.md R740 to R752). One step of the model is one
turn of RunFrame's loop; the host's calls of RunFrame are part of the steps (log entries 5 and 6). -/

namespace Sys2Proof.Machine

/-- PC0 lies in the firmware half that starts at base (60_exceptions.md R751). -/
def State.pcInHalf (s : State) (base : Nat) : Bool :=
  decide (base ≤ s.pc0.toNat) && decide (s.pc0.toNat < base + s.cfg.fwSize)

/-- HlePredicate() (60_exceptions.md R751), which looks at PC0 and not at the launch: with only the upper firmware half
missing, the steps before PC0 enters that half run, and the first step inside it is refused, where R812 has the launch
refused at its first step. DESIGN CHOICE, log entry 19 (unsafe). -/
def State.hlePredicate (s : State) : Bool :=
  s.hle.clearRow != 0
    || (s.hle.lo && s.pcInHalf s.cfg.fwLoBase)
    || (s.hle.hi && s.pcInHalf s.cfg.fwHiBase)
    || (s.hle.fastClear && s.pc0 == s.cfg.clearEntry
        && (s.sp s.cfg.clearReg == s.cfg.clearSelectors.1 || s.sp s.cfg.clearReg == s.cfg.clearSelectors.2))

/-- The budget of the frame that runs or comes next: FRAME_TICKS + DEBT (60_exceptions.md R741). -/
def budget (c : Config) (debt : Int) : Int := (c.frameTicks : Int) + debt

/-- RunFrame's return: DEBT <- budget - elapsed (60_exceptions.md R741). -/
def Scheduler.close (c : Config) (f : Scheduler) : Scheduler :=
  { debt := budget c f.debt - f.elapsed, elapsed := f.elapsed, phase := .idle }

/-- The loop test `elapsed < budget`; when it fails, RunFrame returns (60_exceptions.md R741). -/
def Scheduler.test (c : Config) (f : Scheduler) : Scheduler :=
  if (f.elapsed : Int) < budget c f.debt then { f with phase := .running } else f.close c

/-- The image RunFrame leaves: resolved once, when the frame ends (60_exceptions.md R741, R776). -/
def State.frameImage (s : State) (f : Scheduler) : List (List Nat) :=
  match f.phase with
  | .running => s.frameOut
  | .idle => resolvePalette s.cfg s.video.fb

/-- The host calls RunFrame, having taken and emptied SAMPLES and FRAME_OUT (60_exceptions.md R741, R744;
10_state.md R147; log entry 6). A frame whose budget is 0 or less ends at once, with no step (R742 (c)). Inside a
frame nothing happens here. -/
def State.beginFrame (s : State) : State :=
  match s.sched.phase with
  | .running => s
  | .idle =>
    let f := Scheduler.test s.cfg { s.sched with elapsed := 0 }
    let s := { s with samples := [], frameOut := [] }
    { s with sched := f, frameOut := s.frameImage f }

/-- After an instruction: its ticks are counted and forwarded to the tone generator, and the loop's test is made;
a frame that ends there leaves its image (60_exceptions.md R741, R782). -/
def State.endTurn (s : State) : State :=
  let f := Scheduler.test s.cfg { s.sched with elapsed := s.sched.elapsed + s.ticks }
  let r := toneTick s.cfg s.ticks s.tone
  { s with tone := r.1, samples := s.samples ++ r.2, sched := f, frameOut := s.frameImage f }

/-- One scheduler step inside a frame: the HLE predicate, then one CPU step (60_exceptions.md R740, R752;
30_encoding.md R303), then the rest of the loop's turn. -/
def State.turn (s : State) : Result :=
  if s.hlePredicate then .refused (.hleStep s.pc0)
  else
    match exec (fetchInstr s).1 (fetchInstr s).2 with
    | .next t => .next t.endTurn
    | .fault f => .fault f
    | .refused r => .refused r

/-- One step of the machine: outside a frame the host first calls RunFrame; inside one, a turn of its loop. The
step in which a frame with no budget begins and ends runs no instruction. -/
def State.cycle (s : State) : Result :=
  let s := s.beginFrame
  match s.sched.phase with
  | .running => s.turn
  | .idle => .next s

end Sys2Proof.Machine
end

