-- ==== Sys2Proof/Machine/Step.lean ====
section
/-! DEFINITION. The machine's step, and the placing of one instruction where the next step fetches it. -/

namespace Sys2Proof.Machine

/-- One step of the machine (60_exceptions.md R740, R741): `State.cycle`. -/
def step (s : State) : Host.Outcome State Fault Refusal := s.cycle

/-- The byte that a fetch at addr reads, set to v: in IMAGE where the bank window shows it, else in memory. This is
the host's load, not a write of the machine's, so the write-drop below RAM_START does not apply (20_memory.md R210,
R215). -/
def State.placeByte (s : State) (addr : Addr) (v : Byte) : State :=
  if s.inBankWindow addr then { s with image := s.image.set (s.imageOffset addr) v }
  else { s with mem := Cells.write s.mem addr.toNat v }

/-- s with the three bytes of w, lowest first, where the next step fetches; the bits from nbits on are 0. The
machine is put inside a frame and out of HLE, so that the very next step runs the instruction (log entry 5). -/
def State.withFetchWord (s : State) (nbits w : Nat) : State :=
  let v := w % 2 ^ nbits
  let s := { s with
    sched := match s.sched.phase with
      | .running => s.sched
      | .idle => { s.sched with elapsed := 0, phase := .running }
    hle := { lo := false, hi := false, fastClear := false, clearRow := 0 } }
  ((s.placeByte s.pc0 (BitVec.ofNat 8 v)).placeByte (s.pc0 + 1) (BitVec.ofNat 8 (v / 2 ^ 8))).placeByte
    (s.pc0 + 2) (BitVec.ofNat 8 (v / 2 ^ 16))

end Sys2Proof.Machine
end

