-- ==== Sys2Proof/Machine/Loader.lean ====
section
/-! DEFINITION. What the host does before the first frame: loads and machine reset (20_memory.md R215;
70_reset_and_hazards.md R800 to R810; 60_exceptions.md R704, R750; log entry 15). No step
performs these. -/

namespace Sys2Proof.Machine

/-- Load(buf, base): bytes beyond the 65,536-byte space are truncated (20_memory.md R215). -/
def State.load (s : State) (base : Nat) : List Byte → State
  | [] => s
  | v :: buf =>
    State.load { s with mem := if base < 0x10000 then Cells.write s.mem base v else s.mem } (base + 1) buf

/-- The load of a cartridge at CART_BASE; an image of MULTICART_IMAGE_SIZE bytes switches to banked mode instead
(20_memory.md R215). -/
def State.loadCartridge (s : State) (buf : List Byte) : State :=
  if buf.length = s.cfg.multicartImageSize then { s with image := buf, banked := true, bank := 0 }
  else s.load s.cfg.cartBase buf

/-- The load of the lower firmware half; a missing image configures that half as HLE (20_memory.md R215;
60_exceptions.md R704, R750). -/
def State.loadFirmwareLo (s : State) : Option (List Byte) → State
  | some buf => s.load s.cfg.fwLoBase buf
  | none => { s with hle := { s.hle with lo := true } }

/-- The load of the upper firmware half, as for the lower. -/
def State.loadFirmwareHi (s : State) : Option (List Byte) → State
  | some buf => s.load s.cfg.fwHiBase buf
  | none => { s with hle := { s.hle with hi := true } }

/-- A machine reset (70_reset_and_hazards.md R800): every register, latch and peripheral at its reset value and the
RAM cleared; the loaded images, BANKED, IMAGE, EE_MEM and the HLE configuration are kept, and so are the
parameters. -/
def State.machineReset (s : State) : State :=
  { State.reset with
    cfg := s.cfg
    mem := Cells.below s.mem s.cfg.ramStart
    banked := s.banked
    image := s.image
    eeprom := { State.reset.eeprom with mem := s.eeprom.mem }
    hle := { s.hle with clearRow := 0 }
    draws := s.draws }

end Sys2Proof.Machine
end

