-- ==== Sys2Proof/Safety.lean ====
section
/-! DEFINITION. The terms in which claims speak of the machine: the status register a result leaves, the scratchpad
field by number, the invariants of a run, the ledger of ticks, and what the CPU can see. -/

namespace Sys2Proof.Machine

/-- W from its five flags (10_state.md R103). -/
def packW (icb o z c s : Bool) : BitVec 5 :=
  BitVec.ofBool icb ++ BitVec.ofBool o ++ BitVec.ofBool z ++ BitVec.ofBool c ++ BitVec.ofBool s

/-- W after a logical-class result r: C and O cleared, Z and S from r, ICB kept (43_alu.md R503, R506). -/
def logicW (icb : Bool) (r : Byte) : BitVec 5 := packW icb false (r == 0) false (!r.msb)

/-- W after the sum a + b: C is bit 8 of the 9-bit sum, O is set when both operands share a sign and the result's
sign differs (43_alu.md R500, R506). -/
def addW (icb : Bool) (a b : Byte) : BitVec 5 :=
  packW icb (a.msb == b.msb && (a + b).msb != a.msb) (a + b == 0)
    (a.zeroExtend 9 + b.zeroExtend 9).msb (!(a + b).msb)

/-- W after the difference a - b: C is 1 when no borrow occurs, O is the add's rule on a and the two's complement
of b (43_alu.md R502, R506). -/
def subW (icb : Bool) (a b : Byte) : BitVec 5 :=
  packW icb (a.msb == (-b).msb && (a - b).msb != a.msb) (a == b) (decide (b.toNat ≤ a.toNat)) (!(a - b).msb)

/-- The digits of a decimal add, nibble by nibble: a nibble that did not carry out has 10 added modulo 16
(43_alu.md R504). -/
def decDigits (a b : Byte) : Byte :=
  let lo := a.toNat % 16 + b.toNat % 16
  let hi := a.toNat / 16 + b.toNat / 16 + lo / 16
  BitVec.ofNat 8 (16 * ((if 16 ≤ hi then hi else hi + 10) % 16) + (if 16 ≤ lo then lo else lo + 10) % 16)

/-- A number below 100 as two BCD digits (43_alu.md R505). -/
def bcd (n : Nat) : Byte := BitVec.ofNat 8 (16 * (n / 10) + n % 10)

/-- SpAddr(r) by the field's number: 0..11 direct, 12 to 14 through ISAR (30_encoding.md R310). -/
def fieldIndex (r : BitVec 4) (isar : SpIndex) : SpIndex := if r.toNat ≤ 11 then r.zeroExtend 6 else isar

/-- ISAR after SpPost(r) by the field's number, as two 3-bit counters (30_encoding.md R310, R313; 10_state.md
R111). -/
def fieldIsar (r : BitVec 4) (isar : SpIndex) : SpIndex :=
  let up : BitVec 3 := isar.extractLsb' 3 3
  let low : BitVec 3 := isar.extractLsb' 0 3
  if r.toNat = 13 then up ++ (low + 1) else if r.toNat = 14 then up ++ (low - 1) else isar

/-- The HLE configuration and cursor that the spec models (60_exceptions.md R752). -/
def HleOff (s : State) : Prop := s.hle = { lo := false, hi := false, fastClear := false, clearRow := 0 }

/-- The sparse stores are canonical: equal contents are equal data. -/
def StoresCanonical (s : State) : Prop :=
  Memory.wf s.mem = true ∧ Cells.wf 8192 s.video.fb = true ∧ Cells.wf 1024 s.eeprom.mem = true

/-- TMAX: the largest COST entry, UNDEF_TICKS among them (60_exceptions.md R742 (b)). -/
def tMax (c : Config) : Nat := max c.undefTicks ((c.cost ++ c.costTaken).foldl max 0)

/-- The scheduler between two steps: inside a frame the loop's test holds, and DEBT is within the bound of
60_exceptions.md R742 (b), except that DEBT = 0 is allowed whatever TMAX is. -/
def SchedulerSound (s : State) : Prop :=
  (s.sched.phase = .running → (s.sched.elapsed : Int) < budget s.cfg s.sched.debt)
    ∧ s.sched.debt ≤ 0 ∧ (s.sched.debt = 0 ∨ -((tMax s.cfg : Int) - 1) ≤ s.sched.debt)

/-- PHASE stays below TABLE_LEN (10_state.md R142). -/
def PhaseInTable (s : State) : Prop := s.tone.phase < s.cfg.tableLen

/-- A run's ledger over k steps that all answer a next state: the state after, the ticks the run's instructions
charged, and how many calls of RunFrame returned. -/
def ledger : Nat → State → Option (State × Nat × Nat)
  | 0, s => some (s, 0, 0)
  | k + 1, s =>
    match step s with
    | .next t =>
      let ran := match s.beginFrame.sched.phase with
        | .running => t.ticks
        | .idle => 0
      let returned := match t.sched.phase with
        | .running => 0
        | .idle => 1
      match ledger k t with
      | some (u, ticks, frames) => some (u, ran + ticks, returned + frames)
      | none => none
    | .fault _ => none
    | .refused _ => none

/-- The state without what is drawn: the framebuffer and the image resolved from it. -/
def State.undrawn (s : State) : State := { s with video := { s.video with fb := [] }, frameOut := [] }

/-- An outcome with its next state's drawing left out. -/
def undrawnResult : Result → Result
  | .next s => .next s.undrawn
  | .fault f => .fault f
  | .refused r => .refused r

/-- Every instruction that writes S, C, Z or O: the add class and the logical class of 10_state.md R109, and LR W,J. -/
def writesFlags : Instr → Bool
  | .sr1 | .sl1 | .sr4 | .sl4 | .com | .lnk | .lrWJ | .inc | .ni _ | .oi _ | .xi _ | .ai _ | .ci _ | .inAa _
  | .dsLow _ | .dsHigh _ | .dsS | .dsI | .dsD | .am | .amd | .nm | .om | .xm | .cm | .ins01 _ | .ins23 _
  | .ins47 _ | .ins8F _ | .asLow _ | .asHigh _ | .asS | .asI | .asD | .asdLow _ | .asdHigh _ | .asdS | .asdI
  | .asdD | .xsLow _ | .xsHigh _ | .xsS | .xsI | .xsD | .nsLow _ | .nsHigh _ | .nsS | .nsI | .nsD => true
  | .lrAKU | .lrAKL | .lrAQU | .lrAQL | .lrKUA | .lrKLA | .lrQUA | .lrQLA | .lrKP | .lrPK | .lrAIS | .lrISA
  | .pk | .lrP0Q | .lrQDC | .lrDCQ | .lrDCH | .lrHDC | .lm | .st | .di | .ei | .pop | .lrJW | .li _ | .outAa _
  | .pi _ | .jmp _ | .dci _ | .nop | .xdc | .lrALow _ | .lrAHigh _ | .lrAS | .lrAI | .lrAD | .lrLowA _
  | .lrHighA _ | .lrSA | .lrIA | .lrDA | .lisu _ | .lisl _ | .lis _ | .bt _ _ | .adc | .br7 _ | .bf _ _
  | .outs01 _ | .outs23 _ | .outs47 _ | .outs8F _ | .undef2D | .undef2E | .undef2F | .undef3F | .undef4F
  | .undef5F | .undefCF | .undefDF | .undefEF | .undefFF => false

end Sys2Proof.Machine
end

