-- ==== Sys2Proof/Certificates/Slice0/Obligations.lean ====
section
/-! DEFINITION. The statements about FreeChaF CORE. An equation `exec i s = .next t` says at once that the
instruction completes, what it changes, and that every field it does not name keeps its value. `ticks` is what the
instruction charges: COST of 70_reset_and_hazards.md R840, which stays OPEN in every statement; that the charge
stands in a field of State is the model's choice (log entry 4). PC0's advance past an instruction's bytes is in
`StepRunsDecodedInstruction`: exec starts after it. -/

open Sys2Proof Sys2Proof.Machine

/-! ## Encoding -/

/-- Words written out from 30_encoding.md R304, R305 and R320, one or more of each format, decode to the
instructions they stand for. -/
def Obligations.SampleWordsDecode : Prop :=
  decode [0x00#8] = .ok (.lrAKU, [])
    ∧ decode [0x3B#8] = .ok (.dsHigh 11, [])
    ∧ decode [0x4D#8] = .ok (.lrAI, [])
    ∧ decode [0x66#8] = .ok (.lisu 6, [])
    ∧ decode [0x7F#8] = .ok (.lis 15, [])
    ∧ decode [0xA7#8] = .ok (.ins47 7, [])
    ∧ decode [0x20#8, 0xC3#8] = .ok (.li 0xC3, [])
    ∧ decode [0x27#8, 0x3F#8] = .ok (.outAa 0x3F, [])
    ∧ decode [0x84#8, 0x05#8] = .ok (.bt 4 0x05, [])
    ∧ decode [0x9F#8, 0xFE#8] = .ok (.bf 15 0xFE, [])
    ∧ decode [0x8F#8, 0x80#8] = .ok (.br7 0x80, [])
    ∧ decode [0x28#8, 0x08#8, 0x10#8] = .ok (.pi 0x0810, [])
    ∧ decode [0xFF#8] = .ok (.undefFF, [])

/-- Decoding the bytes of a well-formed instruction gives that instruction and the bytes after it, with every
operand at every value its encoding admits (30_encoding.md R300, R304, R305, R320). -/
def Obligations.DecodeOfEncode : Prop :=
  ∀ (i : Instr) (rest : List Byte), i.wf = true → decode (encode i ++ rest) = .ok (i, rest)

/-- Whatever three bytes stand in the instruction stream, the decoder reads a well-formed instruction whose
encoding is exactly the bytes it took (30_encoding.md R300, R303, R321, R330). -/
def Obligations.EncodeOfDecode : Prop :=
  ∀ (op b1 b2 : Byte) (rest : List Byte), ∃ i tail,
    decode (op :: b1 :: b2 :: rest) = .ok (i, tail) ∧ i.wf = true ∧ encode i ++ tail = op :: b1 :: b2 :: rest

/-- 30_encoding.md R321: every byte matches exactly one row of the opcode table, and the decoder picks that row,
whatever bytes follow. -/
def Obligations.EveryByteSelectsOneRow : Prop :=
  ∀ op b1 b2 : Byte, matchingRows op = [(decodeOpcode op b1 b2).row]

/-! ## The step -/

/-- A step runs the instruction that the bytes at PC0 decode to: inside a frame (or where the host's next call of
RunFrame opens one) and outside HLE, step is exec of that instruction with PC0 past its bytes, and then the rest of
the loop's turn (30_encoding.md R303; 60_exceptions.md R740, R741). That one step is one turn of the loop, so that the
step which opens a frame also runs its first instruction, is the model's choice (DESIGN CHOICE, log entry 5); that
exec starts with PC0 past all operand bytes is the model's reading (DEDUCED, log entry 13). -/
def Obligations.StepRunsDecodedInstruction : Prop :=
  ∀ (s : State) (i : Instr) (rest : List Byte),
    s.beginFrame.sched.phase = .running → s.beginFrame.hlePredicate = false → i.wf = true →
    decode [s.memRead s.pc0, s.memRead (s.pc0 + 1), s.memRead (s.pc0 + 2)] = .ok (i, rest) →
    step s = match exec i { s.beginFrame with pc0 := s.pc0 + BitVec.ofNat 16 i.length } with
      | .next t => .next t.endTurn
      | .fault f => .fault f
      | .refused r => .refused r

/-- RunFrame's loop around an instruction (60_exceptions.md R741, R742 (a), (c)). Inside a frame nothing happens
before the instruction. Outside one, the frame opens with nothing elapsed when its budget is positive, and else ends
at once with DEBT <- budget and its image resolved; the host has emptied SAMPLES and FRAME_OUT. After the instruction
its ticks are elapsed and forwarded to the tone generator; when the budget is met, DEBT is what is left of it and the
image is resolved. The emptying at the call is the model's choice of the moment (log entry 6). -/
def Obligations.RunFrameLoop : Prop :=
  ∀ s : State,
    (s.sched.phase = .running → s.beginFrame = s)
    ∧ (s.sched.phase = .idle → 0 < (s.cfg.frameTicks : Int) + s.sched.debt →
        s.beginFrame = { s with
          samples := [], frameOut := [], sched := { s.sched with elapsed := 0, phase := .running } })
    ∧ (s.sched.phase = .idle → (s.cfg.frameTicks : Int) + s.sched.debt ≤ 0 →
        step s = .next { s with
          samples := [], frameOut := resolvePalette s.cfg s.video.fb
          sched := { debt := (s.cfg.frameTicks : Int) + s.sched.debt, elapsed := 0, phase := .idle } })
    ∧ (((s.sched.elapsed + s.ticks : Nat) : Int) < (s.cfg.frameTicks : Int) + s.sched.debt →
        s.sched.phase = .running →
        s.endTurn = { s with
          tone := (toneTick s.cfg s.ticks s.tone).1
          samples := s.samples ++ (toneTick s.cfg s.ticks s.tone).2
          sched := { s.sched with elapsed := s.sched.elapsed + s.ticks } })
    ∧ ((s.cfg.frameTicks : Int) + s.sched.debt ≤ ((s.sched.elapsed + s.ticks : Nat) : Int) →
        s.endTurn = { s with
          tone := (toneTick s.cfg s.ticks s.tone).1
          samples := s.samples ++ (toneTick s.cfg s.ticks s.tone).2
          frameOut := resolvePalette s.cfg s.video.fb
          sched := {
            debt := (s.cfg.frameTicks : Int) + s.sched.debt - ((s.sched.elapsed + s.ticks : Nat) : Int)
            elapsed := s.sched.elapsed + s.ticks
            phase := .idle } })

/-- 60_exceptions.md R751: when the HLE predicate holds. -/
def Obligations.HlePredicateCases : Prop :=
  ∀ s : State, s.hlePredicate = true ↔
    s.hle.clearRow ≠ 0
      ∨ (s.hle.lo = true ∧ s.cfg.fwLoBase ≤ s.pc0.toNat ∧ s.pc0.toNat < s.cfg.fwLoBase + s.cfg.fwSize)
      ∨ (s.hle.hi = true ∧ s.cfg.fwHiBase ≤ s.pc0.toNat ∧ s.pc0.toNat < s.cfg.fwHiBase + s.cfg.fwSize)
      ∨ (s.pc0 = s.cfg.clearEntry ∧ s.hle.fastClear = true
          ∧ (s.sp s.cfg.clearReg = s.cfg.clearSelectors.1 ∨ s.sp s.cfg.clearReg = s.cfg.clearSelectors.2))

/-- 60_exceptions.md R752: in the configuration the spec models the predicate is false, no step is refused and
every step keeps that configuration; in any other, a step inside a frame whose predicate holds is refused with PC0. -/
def Obligations.HleStepsRefusedAndNoOther : Prop :=
  (∀ s : State, HleOff s → s.hlePredicate = false ∧ (∀ r, step s ≠ .refused r) ∧ ∀ t, step s = .next t → HleOff t)
    ∧ ∀ s : State, s.beginFrame.sched.phase = .running → s.hlePredicate = true →
        step s = .refused (.hleStep s.pc0)

/-- Only IN and OUT stop, exactly on a port operand of 64 or more, by the fault that names the port and PC0, which is
past the operand byte; no instruction is refused (20_memory.md R234; 60_exceptions.md R701, R703). -/
def Obligations.OnlyPortOperandsFault : Prop :=
  (∀ (i : Instr) (s : State),
      (∀ f, exec i s = .fault f ↔
        ∃ p : Byte, 64 ≤ p.toNat ∧ (i = .inAa p ∨ i = .outAa p) ∧ f = .portOutOfRange p s.pc0)
      ∧ ∀ r, exec i s ≠ .refused r)
    ∧ ∀ (s : State) (p : Byte), 64 ≤ p.toNat →
        exec (.inAa p) s = .fault (.portOutOfRange p s.pc0) ∧ exec (.outAa p) s = .fault (.portOutOfRange p s.pc0)

/-! ## Invariants and whole-machine rules -/

/-- Every step keeps the sparse stores (memory, framebuffer, EEPROM) in their canonical form, which is the model's
own (log entry 11). -/
def Obligations.StepKeepsStoresCanonical : Prop :=
  ∀ s t : State, StoresCanonical s → step s = .next t → StoresCanonical t

/-- Every step keeps the scheduler sound, inside a frame elapsed < budget and DEBT between -(TMAX - 1) and 0
(60_exceptions.md R741, R742 (b)), and PHASE below TABLE_LEN (10_state.md R142). That elapsed is kept between steps is
the model's choice (log entry 5). -/
def Obligations.StepKeepsSchedulerAndToneSound : Prop :=
  ∀ s t : State, step s = .next t →
    (SchedulerSound s → SchedulerSound t) ∧ (PhaseInTable s → PhaseInTable t)

/-- The machine after power-on reset meets every invariant, its parameters are valid, and it is not in HLE. That
the parameters are valid is the model's reading of the spec's constraints (log entry 2). -/
def Obligations.ResetMeetsInvariants : Prop :=
  StoresCanonical State.reset ∧ SchedulerSound State.reset ∧ PhaseInTable State.reset ∧ HleOff State.reset
    ∧ State.reset.cfg.valid = true

/-- No step changes a parameter, a loaded image, the banked mode or the HLE configuration and cursor: no load
happens during a run (70_reset_and_hazards.md R810; 10_state.md R131, R146, R148). That the parameters stand in State
is the model's choice (log entry 1). -/
def Obligations.NoStepChangesTheLaunch : Prop :=
  ∀ s t : State, step s = .next t →
    t.cfg = s.cfg ∧ t.image = s.image ∧ t.banked = s.banked ∧ t.hle = s.hle

/-- 20_memory.md R202: no step changes a byte of MEM below RAM_START, and a dropped write, one that is below
RAM_START and no bank select, changes no state at all. -/
def Obligations.MemoryBelowRamStartReadOnly : Prop :=
  (∀ s t : State, step s = .next t → ∀ a, a < s.cfg.ramStart → Cells.read t.mem a = Cells.read s.mem a)
    ∧ ∀ (s : State) (addr : Addr) (v : Byte), addr.toNat < s.cfg.ramStart →
        ¬ (s.banked = true ∧ addr = s.cfg.bankSelectAddr) → s.memWrite addr v = s

/-- 20_memory.md R213: an instruction other than ST leaves MEM and BANK as they were, so that every address reads
as before. -/
def Obligations.OnlyStoreWritesMemory : Prop :=
  ∀ (i : Instr) (s t : State), i ≠ .st → exec i s = .next t →
    t.mem = s.mem ∧ t.bank = s.bank ∧ ∀ addr : Addr, t.memRead addr = s.memRead addr

/-- 10_state.md R109: an instruction outside the add class, the logical class and LR W,J leaves S, C, Z and O. ICB
changes by EI, DI and LR W,J only (R108). -/
def Obligations.OnlyTheTwoClassesWriteFlags : Prop :=
  ∀ (i : Instr) (s t : State), exec i s = .next t →
    (writesFlags i = false →
      t.flagS = s.flagS ∧ t.flagC = s.flagC ∧ t.flagZ = s.flagZ ∧ t.flagO = s.flagO)
    ∧ (i ≠ .ei → i ≠ .di → i ≠ .lrWJ → t.flagICB = s.flagICB)

/-- 10_state.md R111, for every instruction: ISARU changes by LISU and LR IS,A only, so no post-modification
carries into it (10_state.md R110). -/
def Obligations.OnlyLisuAndLrISWriteIsarUpper : Prop :=
  ∀ (i : Instr) (s t : State), (∀ n, i ≠ .lisu n) → i ≠ .lrISA → exec i s = .next t → t.isarU = s.isarU

/-- PC1 changes by PI, PK and LR P,K only, and DC1 by XDC only (10_state.md R113, R115). -/
def Obligations.OnlyNamedInstructionsWritePc1AndDc1 : Prop :=
  ∀ (i : Instr) (s t : State), exec i s = .next t →
    ((∀ a, i ≠ .pi a) → i ≠ .pk → i ≠ .lrPK → t.pc1 = s.pc1) ∧ (i ≠ .xdc → t.dc1 = s.dc1)

/-- The ticks of a run (60_exceptions.md R742 (d)): over any steps from outside a frame to outside a frame, in which
n calls of RunFrame returned, the ticks charged are n * FRAME_TICKS + DEBT before - DEBT after. Where a step begins
and ends is the model's choice (log entries 4 and 5). -/
def Obligations.TicksAreConserved : Prop :=
  ∀ (k : Nat) (s t : State) (ticks frames : Nat),
    s.sched.phase = .idle → ledger k s = some (t, ticks, frames) → t.sched.phase = .idle →
    (ticks : Int) = frames * (s.cfg.frameTicks : Int) + s.sched.debt - t.sched.debt

/-- The CPU cannot read FB (60_exceptions.md R773): two machines that differ only in what is drawn stop alike, or go
on to machines that differ only in what is drawn. -/
def Obligations.DrawingNeverInfluencesTheRun : Prop :=
  ∀ s t : State, s.undrawn = t.undrawn → undrawnResult (step s) = undrawnResult (step t)

/-! ## Register transfer -/

/-- 41_register_transfer.md R401 to R404. -/
def Obligations.LoadAFromKAndQBytes : Prop :=
  encode .lrAKU = [0x00#8] ∧ encode .lrAKL = [0x01#8] ∧ encode .lrAQU = [0x02#8] ∧ encode .lrAQL = [0x03#8]
    ∧ ∀ s : State,
      exec .lrAKU s = .next { s with a := s.sp 12, ticks := cost s.cfg 0x00 false }
      ∧ exec .lrAKL s = .next { s with a := s.sp 13, ticks := cost s.cfg 0x01 false }
      ∧ exec .lrAQU s = .next { s with a := s.sp 14, ticks := cost s.cfg 0x02 false }
      ∧ exec .lrAQL s = .next { s with a := s.sp 15, ticks := cost s.cfg 0x03 false }

/-- 41_register_transfer.md R405 to R408: one scratchpad byte takes A, and nothing else changes. -/
def Obligations.StoreAToKAndQBytes : Prop :=
  encode .lrKUA = [0x04#8] ∧ encode .lrKLA = [0x05#8] ∧ encode .lrQUA = [0x06#8] ∧ encode .lrQLA = [0x07#8]
    ∧ ∀ (s : State) (i : Instr) (k : SpIndex) (op : Byte),
      (i, k, op) ∈ [(Instr.lrKUA, 12#6, 0x04#8), (.lrKLA, 13#6, 0x05#8), (.lrQUA, 14#6, 0x06#8), (.lrQLA, 15#6, 0x07#8)] →
      ∃ t, exec i s = .next t ∧ t = { s with scratch := t.scratch, ticks := cost s.cfg op false }
        ∧ ∀ j, t.sp j = if j = k then s.a else s.sp j

/-- 41_register_transfer.md R409, R410, R419, R420: the moves of ISAR and of its halves. -/
def Obligations.IsarMoves : Prop :=
  encode .lrAIS = [0x0A#8] ∧ encode .lrISA = [0x0B#8]
    ∧ (∀ s : State, exec .lrAIS s =
        .next { s with a := BitVec.ofNat 8 s.isar.toNat, ticks := cost s.cfg 0x0A false })
    ∧ (∀ s : State, exec .lrISA s =
        .next { s with isar := BitVec.ofNat 6 s.a.toNat, ticks := cost s.cfg 0x0B false })
    ∧ ∀ (s : State) (i : BitVec 3),
      encode (.lisu i) = [0x60#8 + i.zeroExtend 8] ∧ encode (.lisl i) = [0x68#8 + i.zeroExtend 8]
      ∧ exec (.lisu i) s = .next { s with isar := i ++ s.isarL, ticks := cost s.cfg (0x60 + i.zeroExtend 8) false }
      ∧ exec (.lisl i) s = .next { s with isar := s.isarU ++ i, ticks := cost s.cfg (0x68 + i.zeroExtend 8) false }

/-- 41_register_transfer.md R411 to R414: DC0 to and from the pairs Q and H, the high byte at the lower index. -/
def Obligations.DataCounterPairMoves : Prop :=
  encode .lrQDC = [0x0E#8] ∧ encode .lrDCQ = [0x0F#8] ∧ encode .lrDCH = [0x10#8] ∧ encode .lrHDC = [0x11#8]
    ∧ ∀ s : State,
      exec .lrDCQ s = .next { s with dc0 := s.sp 14 ++ s.sp 15, ticks := cost s.cfg 0x0F false }
      ∧ exec .lrDCH s = .next { s with dc0 := s.sp 10 ++ s.sp 11, ticks := cost s.cfg 0x10 false }
      ∧ (∃ t, exec .lrQDC s = .next t ∧ t = { s with scratch := t.scratch, ticks := cost s.cfg 0x0E false }
          ∧ ∀ j, t.sp j = if j = 14 then BitVec.ofNat 8 (s.dc0.toNat / 256)
              else if j = 15 then BitVec.ofNat 8 s.dc0.toNat else s.sp j)
      ∧ (∃ t, exec .lrHDC s = .next t ∧ t = { s with scratch := t.scratch, ticks := cost s.cfg 0x11 false }
          ∧ ∀ j, t.sp j = if j = 10 then BitVec.ofNat 8 (s.dc0.toNat / 256)
              else if j = 11 then BitVec.ofNat 8 s.dc0.toNat else s.sp j)

/-- 41_register_transfer.md R415, R416: W from J, flag by flag, and J from W. -/
def Obligations.StatusThroughJ : Prop :=
  encode .lrWJ = [0x1D#8] ∧ encode .lrJW = [0x1E#8]
    ∧ (∀ s : State, exec .lrWJ s = .next { s with
        w := packW ((s.sp 9).getLsbD 4) ((s.sp 9).getLsbD 3) ((s.sp 9).getLsbD 2) ((s.sp 9).getLsbD 1)
          ((s.sp 9).getLsbD 0)
        ticks := cost s.cfg 0x1D false })
    ∧ ∀ s : State, ∃ t, exec .lrJW s = .next t
      ∧ t = { s with scratch := t.scratch, ticks := cost s.cfg 0x1E false }
      ∧ ∀ j, t.sp j = if j = 9 then BitVec.ofNat 8 s.w.toNat else s.sp j

/-- 41_register_transfer.md R417, for every field value 0..14 (the five rows lrALow, lrAHigh, lrAS, lrAI and lrAD):
direct, static, and with the post-modification of ISARL. -/
def Obligations.LoadAFromScratchField : Prop :=
  ∀ (s : State) (r : BitVec 4), r.toNat ≤ 14 →
    encode (.lrA r) = [0x40#8 + r.zeroExtend 8]
    ∧ exec (.lrA r) s = .next { s with
        a := s.sp (fieldIndex r s.isar)
        isar := fieldIsar r s.isar
        ticks := cost s.cfg (0x40 + r.zeroExtend 8) false }

/-- 41_register_transfer.md R418, for every field value 0..14 (the five rows lrLowA, lrHighA, lrSA, lrIA and lrDA). -/
def Obligations.StoreAToScratchField : Prop :=
  ∀ (s : State) (r : BitVec 4), r.toNat ≤ 14 →
    encode (.lrTo r) = [0x50#8 + r.zeroExtend 8]
    ∧ ∃ t, exec (.lrTo r) s = .next t
      ∧ t = { s with
          scratch := t.scratch
          isar := fieldIsar r s.isar
          ticks := cost s.cfg (0x50 + r.zeroExtend 8) false }
      ∧ ∀ j, t.sp j = if j = fieldIndex r s.isar then s.a else s.sp j

/-- 41_register_transfer.md R421 to R423: the constants of LIS, LI and DCI; no flag changes. -/
def Obligations.LoadConstants : Prop :=
  (∀ (s : State) (i : BitVec 4),
      encode (.lis i) = [0x70#8 + i.zeroExtend 8]
      ∧ exec (.lis i) s =
        .next { s with a := BitVec.ofNat 8 i.toNat, ticks := cost s.cfg (0x70 + i.zeroExtend 8) false })
    ∧ (∀ (s : State) (ii : Byte),
      encode (.li ii) = [0x20#8, ii]
      ∧ exec (.li ii) s = .next { s with a := ii, ticks := cost s.cfg 0x20 false })
    ∧ ∀ (s : State) (hh ll : Byte),
      encode (.dci (hh ++ ll)) = [0x2A#8, hh, ll]
      ∧ exec (.dci (hh ++ ll)) s = .next { s with dc0 := hh ++ ll, ticks := cost s.cfg 0x2A false }

/-- 41_register_transfer.md R424, R425: XDC exchanges the counters; ADC adds A read as signed, modulo 2^16. -/
def Obligations.DataCounterExchangeAndAdd : Prop :=
  encode .xdc = [0x2C#8] ∧ encode .adc = [0x8E#8]
    ∧ ∀ s : State,
      exec .xdc s = .next { s with dc0 := s.dc1, dc1 := s.dc0, ticks := cost s.cfg 0x2C false }
      ∧ exec .adc s = .next { s with
          dc0 := BitVec.ofInt 16 ((s.dc0.toNat : Int) + s.a.toInt), ticks := cost s.cfg 0x8E false }

/-! ## Memory reference -/

/-- 20_memory.md R210, R221, R222: outside the bank window of a banked machine an address reads MEM; inside, it
reads the bank BANK mod NBANKS of IMAGE, NBANKS being at least 1 for valid parameters, whose image is whole banks. A
write to another address than BANK_SELECT_ADDR does what it does in a machine that is not banked. -/
def Obligations.MemoryReadThroughBankWindow : Prop :=
  ∀ (s : State) (addr : Addr) (base : Nat), base = s.cfg.bankWindowBase.toNat →
    (¬ (s.banked = true ∧ base ≤ addr.toNat ∧ addr.toNat < base + 0x2000) →
      s.memRead addr = Cells.read s.mem addr.toNat)
    ∧ (s.banked = true → base ≤ addr.toNat → addr.toNat < base + 0x2000 →
      ∀ v, s.image[s.bank.toNat % (s.cfg.multicartImageSize / 0x2000) * 0x2000 + (addr.toNat - base)]? = some v →
        s.memRead addr = v)
    ∧ (s.cfg.valid = true → 1 ≤ s.cfg.multicartImageSize / 0x2000 ∧ s.cfg.multicartImageSize % 0x2000 = 0)
    ∧ ∀ v : Byte, addr ≠ s.cfg.bankSelectAddr →
      s.memWrite addr v = { State.memWrite { s with banked := false } addr v with banked := s.banked }

/-- 42_memory_reference.md R450. -/
def Obligations.LoadFromMemory : Prop :=
  encode .lm = [0x16#8]
    ∧ ∀ s : State, exec .lm s =
      .next { s with a := s.memRead s.dc0, dc0 := s.dc0 + 1, ticks := cost s.cfg 0x16 false }

/-- 42_memory_reference.md R451 with 20_memory.md R212: ST completes everywhere, advances DC0, and changes no more
than the byte of MEM at DC0 (in RAM only) and, where DC0 is the bank-select address of a banked machine, BANK. The
byte stored to is the one at s.dc0. When the bank is not switched, every other address reads as before, and the
stored byte reads back wherever RAM is seen. -/
def Obligations.StoreToMemory : Prop :=
  encode .st = [0x17#8]
    ∧ ∀ s : State, ∃ t, exec .st s = .next t
      ∧ t = { s with mem := t.mem, bank := t.bank, dc0 := s.dc0 + 1, ticks := cost s.cfg 0x17 false }
      ∧ (∀ a, Cells.read t.mem a = if a = s.dc0.toNat ∧ s.cfg.ramStart ≤ a then s.a else Cells.read s.mem a)
      ∧ (t.bank = if s.banked = true ∧ s.dc0 = s.cfg.bankSelectAddr then s.a else s.bank)
      ∧ (¬ (s.banked = true ∧ s.dc0 = s.cfg.bankSelectAddr) →
          (∀ b : Addr, b ≠ s.dc0 → t.memRead b = s.memRead b)
          ∧ (s.cfg.ramStart ≤ s.dc0.toNat → s.inBankWindow s.dc0 = false → t.memRead s.dc0 = s.a)
          ∧ (s.dc0.toNat < s.cfg.ramStart → t.memRead s.dc0 = s.memRead s.dc0))

/-- 42_memory_reference.md R452, R453, R457: AM, AMD and CM with the byte at DC0. CM's flags are those of 43_alu.md
R502, which at M = A = 0x80 give O = 1 (90_conflicts.md C19), where the prose of R457 has O = 0 for every M = A. -/
def Obligations.AddAndCompareMemory : Prop :=
  encode .am = [0x88#8] ∧ encode .amd = [0x89#8] ∧ encode .cm = [0x8D#8]
    ∧ ∀ (s : State) (m : Byte), m = s.memRead s.dc0 →
      exec .am s = .next { s with
        a := s.a + m, w := addW s.flagICB s.a m, dc0 := s.dc0 + 1, ticks := cost s.cfg 0x88 false }
      ∧ exec .amd s = .next { s with
        a := decDigits s.a m, w := addW s.flagICB s.a m, dc0 := s.dc0 + 1, ticks := cost s.cfg 0x89 false }
      ∧ exec .cm s = .next { s with
        w := subW s.flagICB m s.a, dc0 := s.dc0 + 1, ticks := cost s.cfg 0x8D false }

/-- 42_memory_reference.md R454 to R456: NM, OM and XM with the byte at DC0. -/
def Obligations.LogicMemory : Prop :=
  encode .nm = [0x8A#8] ∧ encode .om = [0x8B#8] ∧ encode .xm = [0x8C#8]
    ∧ ∀ (s : State) (m : Byte), m = s.memRead s.dc0 →
      exec .nm s = .next { s with
        a := s.a &&& m, w := logicW s.flagICB (s.a &&& m), dc0 := s.dc0 + 1, ticks := cost s.cfg 0x8A false }
      ∧ exec .om s = .next { s with
        a := s.a ||| m, w := logicW s.flagICB (s.a ||| m), dc0 := s.dc0 + 1, ticks := cost s.cfg 0x8B false }
      ∧ exec .xm s = .next { s with
        a := s.a ^^^ m, w := logicW s.flagICB (s.a ^^^ m), dc0 := s.dc0 + 1, ticks := cost s.cfg 0x8C false }

/-! ## Arithmetic and logic -/

/-- 43_alu.md R500: Add8's result and flags; C is unsigned overflow and O signed overflow (R501). -/
def Obligations.AddFlagRule : Prop :=
  ∀ a b : Byte, (add8 a b).1 = a + b
    ∧ ((add8 a b).2.c = true ↔ 256 ≤ a.toNat + b.toNat)
    ∧ ((add8 a b).2.o = true ↔ a.msb = b.msb ∧ (a + b).msb ≠ a.msb)
    ∧ ((add8 a b).2.o = true ↔ ¬ (-128 ≤ a.toInt + b.toInt ∧ a.toInt + b.toInt ≤ 127))
    ∧ ((add8 a b).2.z = true ↔ a + b = 0) ∧ ((add8 a b).2.s = true ↔ (a + b).msb = false)

/-- 43_alu.md R502: Sub8's result and flags, and its two consequences: equal operands, and a subtrahend of 0x80. -/
def Obligations.SubtractFlagRule : Prop :=
  ∀ a b : Byte, (sub8 a b).1 = a - b
    ∧ ((sub8 a b).2.c = true ↔ b.toNat ≤ a.toNat)
    ∧ ((sub8 a b).2.z = true ↔ a = b) ∧ ((sub8 a b).2.s = true ↔ (a - b).msb = false)
    ∧ ((sub8 a b).2.o = true ↔ a.msb = (-b).msb ∧ (a - b).msb ≠ a.msb)
    ∧ ((sub8 a a).2.o = true ↔ a = 0x80#8)
    ∧ ((sub8 a 0x80#8).2.o = true ↔ a.msb = true)

/-- 43_alu.md R505: with the augend biased by 0x66, the decimal add gives the two low digits of the sum, and C is 1
exactly when the sum is 100 or more. -/
def Obligations.DecimalAddOfBcd : Prop :=
  ∀ x y : Nat, x < 100 → y < 100 →
    (decAdd8 (bcd x + 0x66#8) (bcd y)).1 = bcd ((x + y) % 100)
    ∧ ((decAdd8 (bcd x + 0x66#8) (bcd y)).2.c = true ↔ 100 ≤ x + y)

/-- 43_alu.md R510 to R513: the four shifts, zero filled, as a division or a multiplication modulo 256. -/
def Obligations.Shifts : Prop :=
  encode .sr1 = [0x12#8] ∧ encode .sl1 = [0x13#8] ∧ encode .sr4 = [0x14#8] ∧ encode .sl4 = [0x15#8]
    ∧ ∀ (s : State) (i : Instr) (op r : Byte),
      (i, op, r) ∈ [(Instr.sr1, 0x12#8, BitVec.ofNat 8 (s.a.toNat / 2)), (.sl1, 0x13#8, BitVec.ofNat 8 (s.a.toNat * 2)),
        (.sr4, 0x14#8, BitVec.ofNat 8 (s.a.toNat / 16)), (.sl4, 0x15#8, BitVec.ofNat 8 (s.a.toNat * 16))] →
      exec i s = .next { s with a := r, w := logicW s.flagICB r, ticks := cost s.cfg op false }

/-- 43_alu.md R514 to R516: COM, LNK (which adds the carry) and INC. -/
def Obligations.ComplementLinkIncrement : Prop :=
  encode .com = [0x18#8] ∧ encode .lnk = [0x19#8] ∧ encode .inc = [0x1F#8]
    ∧ ∀ s : State,
      exec .com s = .next { s with a := ~~~s.a, w := logicW s.flagICB (~~~s.a), ticks := cost s.cfg 0x18 false }
      ∧ (s.flagC = false → exec .lnk s = .next { s with
          w := logicW s.flagICB s.a, ticks := cost s.cfg 0x19 false })
      ∧ (s.flagC = true → exec .lnk s = .next { s with
          a := s.a + 1, w := addW s.flagICB s.a 1, ticks := cost s.cfg 0x19 false })
      ∧ exec .inc s = .next { s with
          a := s.a + 1, w := addW s.flagICB s.a 1, ticks := cost s.cfg 0x1F false }

/-- 43_alu.md R517 to R519: NI, OI and XI. -/
def Obligations.LogicImmediate : Prop :=
  ∀ (s : State) (ii : Byte),
    encode (.ni ii) = [0x21#8, ii] ∧ encode (.oi ii) = [0x22#8, ii] ∧ encode (.xi ii) = [0x23#8, ii]
    ∧ exec (.ni ii) s = .next { s with
        a := s.a &&& ii, w := logicW s.flagICB (s.a &&& ii), ticks := cost s.cfg 0x21 false }
    ∧ exec (.oi ii) s = .next { s with
        a := s.a ||| ii, w := logicW s.flagICB (s.a ||| ii), ticks := cost s.cfg 0x22 false }
    ∧ exec (.xi ii) s = .next { s with
        a := s.a ^^^ ii, w := logicW s.flagICB (s.a ^^^ ii), ticks := cost s.cfg 0x23 false }

/-- 43_alu.md R520, R521: AI adds; CI compares ii minus A and leaves A. -/
def Obligations.AddAndCompareImmediate : Prop :=
  ∀ (s : State) (ii : Byte),
    encode (.ai ii) = [0x24#8, ii] ∧ encode (.ci ii) = [0x25#8, ii]
    ∧ exec (.ai ii) s = .next { s with
        a := s.a + ii, w := addW s.flagICB s.a ii, ticks := cost s.cfg 0x24 false }
    ∧ exec (.ci ii) s = .next { s with w := subW s.flagICB ii s.a, ticks := cost s.cfg 0x25 false }

/-- 43_alu.md R522, for every field value 0..14 (the five rows dsLow, dsHigh, dsS, dsI and dsD): the byte is
decremented by adding 0xFF, with that add's flags; A is unchanged. -/
def Obligations.DecrementScratchField : Prop :=
  ∀ (s : State) (r : BitVec 4) (k : SpIndex), r.toNat ≤ 14 → k = fieldIndex r s.isar →
    encode (.ds r) = [0x30#8 + r.zeroExtend 8]
    ∧ ∃ t, exec (.ds r) s = .next t
      ∧ t = { s with
          scratch := t.scratch
          w := addW s.flagICB (s.sp k) 0xFF#8
          isar := fieldIsar r s.isar
          ticks := cost s.cfg (0x30 + r.zeroExtend 8) false }
      ∧ ∀ j, t.sp j = if j = k then s.sp k - 1 else s.sp j

/-- 43_alu.md R523, R524, for every field value 0..14 (the rows asLow, asHigh, asS, asI and asD, and asdLow,
asdHigh, asdS, asdI and asdD). -/
def Obligations.AddScratchField : Prop :=
  ∀ (s : State) (r : BitVec 4) (b : Byte), r.toNat ≤ 14 → b = s.sp (fieldIndex r s.isar) →
    encode (.addScratch r) = [0xC0#8 + r.zeroExtend 8] ∧ encode (.asd r) = [0xD0#8 + r.zeroExtend 8]
    ∧ exec (.addScratch r) s = .next { s with
        a := s.a + b, w := addW s.flagICB s.a b, isar := fieldIsar r s.isar
        ticks := cost s.cfg (0xC0 + r.zeroExtend 8) false }
    ∧ exec (.asd r) s = .next { s with
        a := decDigits s.a b, w := addW s.flagICB s.a b, isar := fieldIsar r s.isar
        ticks := cost s.cfg (0xD0 + r.zeroExtend 8) false }

/-- 43_alu.md R525, R526, for every field value 0..14 (the rows xsLow, xsHigh, xsS, xsI and xsD, and nsLow,
nsHigh, nsS, nsI and nsD). -/
def Obligations.LogicScratchField : Prop :=
  ∀ (s : State) (r : BitVec 4) (b : Byte), r.toNat ≤ 14 → b = s.sp (fieldIndex r s.isar) →
    encode (.xs r) = [0xE0#8 + r.zeroExtend 8] ∧ encode (.ns r) = [0xF0#8 + r.zeroExtend 8]
    ∧ exec (.xs r) s = .next { s with
        a := s.a ^^^ b, w := logicW s.flagICB (s.a ^^^ b), isar := fieldIsar r s.isar
        ticks := cost s.cfg (0xE0 + r.zeroExtend 8) false }
    ∧ exec (.ns r) s = .next { s with
        a := s.a &&& b, w := logicW s.flagICB (s.a &&& b), isar := fieldIsar r s.isar
        ticks := cost s.cfg (0xF0 + r.zeroExtend 8) false }

/-! ## Control transfer -/

/-- 44_control_transfer.md R602: both halves of the source's formula are PC0 + sext(n) - 1, modulo 2^16. -/
def Obligations.RelativeTarget : Prop :=
  ∀ (pc : Addr) (n : Byte), relative pc n = BitVec.ofInt 16 ((pc.toNat : Int) + n.toInt - 1)

/-- 44_control_transfer.md R610 to R616, from the state in which PC0 is past the instruction: JMP and PI lose A to
the high address byte; PI and PK save PC0 in PC1; POP and LR P0,Q only move PC0; LR P,K and LR K,P move PC1 from and
to the pair K. -/
def Obligations.JumpsCallsAndReturns : Prop :=
  encode .lrKP = [0x08#8] ∧ encode .lrPK = [0x09#8] ∧ encode .pk = [0x0C#8] ∧ encode .lrP0Q = [0x0D#8]
    ∧ encode .pop = [0x1C#8]
    ∧ ∀ (s : State) (hh ll : Byte),
      encode (.pi (hh ++ ll)) = [0x28#8, hh, ll] ∧ encode (.jmp (hh ++ ll)) = [0x29#8, hh, ll]
      ∧ exec (.jmp (hh ++ ll)) s = .next { s with a := hh, pc0 := hh ++ ll, ticks := cost s.cfg 0x29 false }
      ∧ exec (.pi (hh ++ ll)) s = .next { s with
          a := hh, pc1 := s.pc0, pc0 := hh ++ ll, ticks := cost s.cfg 0x28 false }
      ∧ exec .pk s = .next { s with pc0 := s.sp 12 ++ s.sp 13, pc1 := s.pc0, ticks := cost s.cfg 0x0C false }
      ∧ exec .pop s = .next { s with pc0 := s.pc1, ticks := cost s.cfg 0x1C false }
      ∧ exec .lrP0Q s = .next { s with pc0 := s.sp 14 ++ s.sp 15, ticks := cost s.cfg 0x0D false }
      ∧ exec .lrPK s = .next { s with pc1 := s.sp 12 ++ s.sp 13, ticks := cost s.cfg 0x09 false }
      ∧ ∃ t, exec .lrKP s = .next t ∧ t = { s with scratch := t.scratch, ticks := cost s.cfg 0x08 false }
        ∧ ∀ j, t.sp j = if j = 12 then BitVec.ofNat 8 (s.pc1.toNat / 256)
            else if j = 13 then BitVec.ofNat 8 s.pc1.toNat else s.sp j

/-- 44_control_transfer.md R620, R622, R624: BT is taken when a flag its mask names is 1, BF when every flag its
mask names is 0, BR7 unless ISARL is 7; a branch writes PC0 and charges its taken or its not-taken cost, no more. -/
def Obligations.ConditionalBranches : Prop :=
  (∀ (s : State) (t : BitVec 3) (n : Byte),
      encode (.bt t n) = [0x80#8 + t.zeroExtend 8, n]
      ∧ ((t.getLsbD 0 && s.flagS || t.getLsbD 1 && s.flagC || t.getLsbD 2 && s.flagZ) = true →
          exec (.bt t n) s = .next { s with
            pc0 := relative s.pc0 n, ticks := cost s.cfg (0x80 + t.zeroExtend 8) true })
      ∧ ((t.getLsbD 0 && s.flagS || t.getLsbD 1 && s.flagC || t.getLsbD 2 && s.flagZ) = false →
          exec (.bt t n) s = .next { s with ticks := cost s.cfg (0x80 + t.zeroExtend 8) false }))
    ∧ (∀ (s : State) (t : BitVec 4) (n : Byte),
      encode (.bf t n) = [0x90#8 + t.zeroExtend 8, n]
      ∧ ((t.getLsbD 0 && s.flagS || t.getLsbD 1 && s.flagC || t.getLsbD 2 && s.flagZ || t.getLsbD 3 && s.flagO) = false →
          exec (.bf t n) s = .next { s with
            pc0 := relative s.pc0 n, ticks := cost s.cfg (0x90 + t.zeroExtend 8) true })
      ∧ ((t.getLsbD 0 && s.flagS || t.getLsbD 1 && s.flagC || t.getLsbD 2 && s.flagZ || t.getLsbD 3 && s.flagO) = true →
          exec (.bf t n) s = .next { s with ticks := cost s.cfg (0x90 + t.zeroExtend 8) false }))
    ∧ ∀ (s : State) (n : Byte),
      encode (.br7 n) = [0x8F#8, n]
      ∧ (s.isar.toNat % 8 ≠ 7 → exec (.br7 n) s = .next { s with
          pc0 := relative s.pc0 n, ticks := cost s.cfg 0x8F true })
      ∧ (s.isar.toNat % 8 = 7 → exec (.br7 n) s = .next { s with ticks := cost s.cfg 0x8F false })

/-! ## Ports, peripherals, interrupt flag -/

/-- 45_io_system.md R650, R652 with 20_memory.md R230: IN of a port below 64 and INS of every port (the four rows ins01,
ins23, ins47 and ins8F) load A with the latch ORed with the controller's draw and set the logical flags; the machine changes in nothing else
(draws is the model's count of the draws taken, log entry 7). -/
def Obligations.PortInput : Prop :=
  (∀ (s : State) (p : PortNo) (v : Byte),
      v = (s.latchAt p ||| if p ∈ s.cfg.controllerPorts then Config.controllerDraw s.draws else 0) →
      encode (.inAa (p.zeroExtend 8)) = [0x26#8, p.zeroExtend 8]
      ∧ exec (.inAa (p.zeroExtend 8)) s = .next { s with
          a := v, w := logicW s.flagICB v, ticks := cost s.cfg 0x26 false
          draws := if p ∈ s.cfg.controllerPorts then s.draws + 1 else s.draws })
    ∧ ∀ (s : State) (p : BitVec 4) (v : Byte),
      v = (s.latchAt (p.zeroExtend 6)
        ||| if p.zeroExtend 6 ∈ s.cfg.controllerPorts then Config.controllerDraw s.draws else 0) →
      encode (.ins p) = [0xA0#8 + p.zeroExtend 8]
      ∧ exec (.ins p) s = .next { s with
          a := v, w := logicW s.flagICB v, ticks := cost s.cfg (0xA0 + p.zeroExtend 8) false
          draws := if p.zeroExtend 6 ∈ s.cfg.controllerPorts then s.draws + 1 else s.draws }

/-- 45_io_system.md R651, R653 with 20_memory.md R231: OUT to a port below 64 and OUTS to every port (the four rows
outs01, outs23, outs47 and outs8F) write A to the latch and inform the three peripherals; only latches and peripherals change. A latch other than the
one written changes only as an EEPROM read-back (60_exceptions.md R762, R763). -/
def Obligations.PortOutput : Prop :=
  ∀ (s : State) (i : Instr) (p : PortNo) (op : Byte),
    (i = .outAa (p.zeroExtend 8) ∧ op = 0x27
      ∨ ∃ q : BitVec 4, i = .outs q ∧ p = q.zeroExtend 6 ∧ op = 0xB0 + q.zeroExtend 8) →
    (encode i).head? = some op
    ∧ ∃ t, exec i s = .next t
      ∧ t = { s with
          latch := t.latch
          eeprom := eeReceive s.cfg p s.a s.eeprom
          video := videoReceive s.cfg p s.a s.video
          tone := toneReceive s.cfg p s.a s.tone
          ticks := cost s.cfg op false }
      ∧ (p ∉ s.cfg.eeLoPorts → p ∉ s.cfg.eeHiPorts → t.eeprom = s.eeprom
          ∧ ∀ q, t.latchAt q = if q = p then s.a else s.latchAt q)
      ∧ (p ∈ s.cfg.eeLoPorts ∨ p ∈ s.cfg.eeHiPorts →
          ∀ q, t.latchAt q =
            if q = s.cfg.eeRbHi then BitVec.ofNat 8 (t.eeprom.state.toNat / 256)
            else if q = s.cfg.eeRbLo then BitVec.ofNat 8 t.eeprom.state.toNat
            else if q = p then s.a else s.latchAt q)

/-- 45_io_system.md R660 to R662: DI and EI write ICB and keep the four flags; NOP does nothing. -/
def Obligations.InterruptFlagAndNop : Prop :=
  encode .di = [0x1A#8] ∧ encode .ei = [0x1B#8] ∧ encode .nop = [0x2B#8]
    ∧ ∀ s : State,
      exec .di s = .next { s with
        w := packW false s.flagO s.flagZ s.flagC s.flagS, ticks := cost s.cfg 0x1A false }
      ∧ exec .ei s = .next { s with
        w := packW true s.flagO s.flagZ s.flagC s.flagS, ticks := cost s.cfg 0x1B false }
      ∧ exec .nop s = .next { s with ticks := cost s.cfg 0x2B false }

/-- 45_io_system.md R670: each of the ten undefined opcodes is one byte long and does nothing but charge
UNDEF_TICKS. -/
def Obligations.UndefinedOpcodesAreNoOps : Prop :=
  ∀ (i : Instr) (op : Byte),
    (i, op) ∈ [(Instr.undef2D, 0x2D#8), (.undef2E, 0x2E#8), (.undef2F, 0x2F#8), (.undef3F, 0x3F#8),
      (.undef4F, 0x4F#8), (.undef5F, 0x5F#8), (.undefCF, 0xCF#8), (.undefDF, 0xDF#8), (.undefEF, 0xEF#8),
      (.undefFF, 0xFF#8)] →
    encode i = [op] ∧ decode [op] = .ok (i, []) ∧ ∀ s : State, exec i s = .next { s with ticks := s.cfg.undefTicks }

/-- 60_exceptions.md R762: a poll decodes direction and address; a write poll stores EE_DIN at the address and
leaves EE_STATE; a read poll leaves EE_MEM and puts the cell into bit EE_DOUT_BIT of EE_STATE alone. -/
def Obligations.EepromPoll : Prop :=
  ∀ (c : Config) (e : Eeprom),
    (eePoll c e).rw = eeDir c e.state ∧ (eePoll c e).addr = eeAddr c e.state
    ∧ (eeDir c e.state = .write → (eePoll c e).state = e.state
        ∧ ∀ a, Cells.read (eePoll c e).mem a =
          if a = (eeAddr c e.state).toNat then eeDin c e.state else Cells.read e.mem a)
    ∧ (eeDir c e.state = .read → (eePoll c e).mem = e.mem
        ∧ ∀ j, j < 16 → (eePoll c e).state.getLsbD j =
          if j = c.eeDoutBit.toNat then (Cells.read e.mem (eeAddr c e.state).toNat).getLsbD 0
          else e.state.getLsbD j)

/-- 60_exceptions.md R764, the source's property: a write poll of bit d at an address, then writes to other ports
or polls that leave that cell, then a read poll of the same address, shows d in bit EE_DOUT_BIT of EE_STATE, and in
the read-back latch that holds that bit. That the two read-back ports differ is DEDUCED (log entry 2). -/
def Obligations.EepromBitReadsBack : Prop :=
  ∀ (s t u : State) (p q : PortNo) (v x : Byte),
    s.cfg.valid = true → t.cfg = s.cfg →
    eeAddressed s.cfg p = true → eeAddressed s.cfg q = true →
    eeDir s.cfg (eeLoad s.cfg p v s.eeprom.state) = .write →
    eeDir s.cfg (eeLoad s.cfg q x t.eeprom.state) = .read →
    eeAddr s.cfg (eeLoad s.cfg q x t.eeprom.state) = eeAddr s.cfg (eeLoad s.cfg p v s.eeprom.state) →
    Cells.read t.eeprom.mem (s.portWriteNotify p v).eeprom.addr.toNat
      = Cells.read (s.portWriteNotify p v).eeprom.mem (s.portWriteNotify p v).eeprom.addr.toNat →
    u = t.portWriteNotify q x →
    let d := (eeLoad s.cfg p v s.eeprom.state).getLsbD s.cfg.eeDinBit.toNat
    u.eeprom.state.getLsbD s.cfg.eeDoutBit.toNat = d
      ∧ (if s.cfg.eeDoutBit.toNat < 8 then (u.latchAt s.cfg.eeRbLo).getLsbD s.cfg.eeDoutBit.toNat
          else (u.latchAt s.cfg.eeRbHi).getLsbD (s.cfg.eeDoutBit.toNat - 8)) = d

/-- 60_exceptions.md R771, R772: what a notify write makes of each of the four distinct video ports; a strobe plots
VCOLOR at (VX, VY) exactly on the transition from ARM_FROM to ARM_TO, and takes the masked value. -/
def Obligations.VideoWriterPorts : Prop :=
  (∀ (c : Config) (p : PortNo) (v : Byte) (d : Video), c.valid = true →
      (p = c.portColor → videoReceive c p v d = { d with color := c.colorOf.getD v.toNat 0 })
      ∧ (p = c.portX → videoReceive c p v d = { d with x := c.xOf.getD v.toNat 0 })
      ∧ (p = c.portY → videoReceive c p v d = { d with y := c.yOf.getD v.toNat 0 })
      ∧ (p = c.portArm → videoReceive c p v d = videoStrobe c v d)
      ∧ (p ∉ [c.portColor, c.portX, c.portY, c.portArm] → videoReceive c p v d = d))
    ∧ ∀ (c : Config) (v : Byte) (d : Video),
      videoStrobe c v d = { d with fb := (videoStrobe c v d).fb, arm := v &&& c.armMask }
      ∧ (d.arm = c.armFrom → v &&& c.armMask = c.armTo →
          ∀ x y : Nat, x < 128 → Cells.read (videoStrobe c v d).fb (y * 128 + x) =
            if x = d.x.toNat ∧ y = d.y.toNat then d.color else Cells.read d.fb (y * 128 + x))
      ∧ (¬ (d.arm = c.armFrom ∧ v &&& c.armMask = c.armTo) → (videoStrobe c v d).fb = d.fb)

/-- 60_exceptions.md R776: the image has 64 rows of 128 cells, and each cell goes through the sub-palette its row's
two palette cells select. Colours are codes (log entry 16). -/
def Obligations.PaletteResolution : Prop :=
  ∀ (c : Config) (fb : Cells 2), (resolvePalette c fb).length = 64
    ∧ ∀ y, y < 64 → ∃ row, (resolvePalette c fb)[y]? = some row ∧ row.length = 128
      ∧ ∀ x, x < 128 →
        let k := c.palSel.getD (4 * (Cells.read fb (y * 128 + c.palCol0.toNat)).toNat
          + (Cells.read fb (y * 128 + c.palCol1.toNat)).toNat) 0
        row[x]? = some (c.outColor.getD (c.subPal.getD (4 * k.toNat + (Cells.read fb (y * 128 + x)).toNat) 0).toNat 0)

/-- 60_exceptions.md R780: a change of the tone in the top two bits of PORT_TONE restarts envelope and phase; the
same tone again, or another port, changes nothing. -/
def Obligations.ToneSelect : Prop :=
  ∀ (c : Config) (p : PortNo) (v : Byte) (t : Tone),
    (p = c.portTone → v.toNat / 64 ≠ t.select.toNat →
      toneReceive c p v t = { t with select := BitVec.ofNat 2 (v.toNat / 64), amp := c.ampFull, phase := 0 })
    ∧ (p = c.portTone → v.toNat / 64 = t.select.toNat → toneReceive c p v t = t)
    ∧ (p ≠ c.portTone → toneReceive c p v t = t)

/-- 60_exceptions.md R781 to R784: while TACC and the new ticks hold a threshold, one sample is emitted and the
loop goes on; else TACC takes the ticks. The sample is SAMPLE_OUT of the waveform value times AMP, on both channels:
the number 0 for tone 0, whose sample is the zero sample, the look-up of tone 1 or of tone 2, and the sum of the two
for the dual tone. The number type and its operations are free but for products with 0, and TACC is a natural number
(log entries 8, 9 and 16). -/
def Obligations.ToneTickEmitsOnePerThreshold : Prop :=
  (∀ (c : Config) (n : Nat) (t : Tone), t.tacc + n * c.tickStep < c.sampleThreshold →
      toneTick c n t = ({ t with tacc := t.tacc + n * c.tickStep }, []))
    ∧ (∀ (c : Config) (n : Nat) (t : Tone), 0 < c.sampleThreshold → c.sampleThreshold ≤ t.tacc + n * c.tickStep →
      let o := toneOut (toneTimes (toneValue c t) t.amp)
      let u : Tone := { select := t.select, amp := toneTimes t.amp c.decay, phase := (t.phase + 1) % c.tableLen
                        tacc := t.tacc + n * c.tickStep - c.sampleThreshold }
      toneTick c n t = ((toneTick c 0 u).1, { left := o, right := o } :: (toneTick c 0 u).2))
    ∧ ∀ (c : Config) (t : Tone) (look1 look2 : ToneNum),
      look1 = c.toneTable.getD (t.phase * c.stride1 % c.tableLen) 0 →
      look2 = c.toneTable.getD (t.phase * c.stride2 % c.tableLen) 0 →
      (t.select = 0 → toneValue c t = 0 ∧ toneSample c t = { left := 0, right := 0 })
      ∧ (t.select = 1 → toneValue c t = look1) ∧ (t.select = 2 → toneValue c t = look2)
      ∧ (t.select = 3 → toneValue c t = Config.toneAdd look1 look2)

/-! ## Reset and load -/

/-- 70_reset_and_hazards.md R800: a machine reset, field by field; the machine right after power-on is the reset of
itself (R802). The fields that are the model's own are not spoken of, but for the counters a frame starts from. -/
def Obligations.MachineResetValues : Prop :=
  (∀ (s t : State), t = s.machineReset →
      t.a = 0 ∧ t.w = 0 ∧ t.isar = 0 ∧ t.pc0 = 0 ∧ t.pc1 = 0 ∧ t.dc0 = 0 ∧ t.dc1 = 0 ∧ (∀ k, t.sp k = 0)
      ∧ (∀ a, Cells.read t.mem a = if a < s.cfg.ramStart then Cells.read s.mem a else 0)
      ∧ t.banked = s.banked ∧ t.image = s.image ∧ t.bank = 0 ∧ (∀ p, t.latchAt p = 0)
      ∧ t.eeprom = { mem := s.eeprom.mem, state := 0, addr := 0, rw := .read }
      ∧ t.video = { fb := [], x := 0, y := 0, color := 0, arm := 0 }
      ∧ t.tone = { select := 0, amp := 0, phase := 0, tacc := 0 }
      ∧ t.sched.debt = 0 ∧ t.hle = { s.hle with clearRow := 0 } ∧ t.samples = [] ∧ t.frameOut = [])
    ∧ State.reset.machineReset = State.reset ∧ State.reset.eeprom.mem = []

/-- 20_memory.md R215: Load puts buf[i] at base + i, truncated at 65,536, and changes nothing else. A cartridge of
MULTICART_IMAGE_SIZE bytes sets IMAGE, BANKED and BANK instead and leaves MEM, any other is loaded at CART_BASE. A
firmware half is loaded at its base, and a missing one sets that half's HLE flag alone (60_exceptions.md R704,
R750). -/
def Obligations.LoadPlacesBytes : Prop :=
  (∀ (buf : List Byte) (s t : State) (base : Nat), t = s.load base buf →
      t = { s with mem := t.mem }
      ∧ ∀ a, Cells.read t.mem a =
        if base ≤ a ∧ a < base + buf.length ∧ a < 0x10000 then buf.getD (a - base) 0 else Cells.read s.mem a)
    ∧ ∀ (buf : List Byte) (s : State),
      (buf.length = s.cfg.multicartImageSize →
        s.loadCartridge buf = { s with image := buf, banked := true, bank := 0 })
      ∧ (buf.length ≠ s.cfg.multicartImageSize → s.loadCartridge buf = s.load s.cfg.cartBase buf)
      ∧ s.loadFirmwareLo (some buf) = s.load s.cfg.fwLoBase buf
      ∧ s.loadFirmwareHi (some buf) = s.load s.cfg.fwHiBase buf
      ∧ s.loadFirmwareLo none = { s with
          hle := { lo := true, hi := s.hle.hi, fastClear := s.hle.fastClear, clearRow := s.hle.clearRow } }
      ∧ s.loadFirmwareHi none = { s with
          hle := { lo := s.hle.lo, hi := true, fastClear := s.hle.fastClear, clearRow := s.hle.clearRow } }

/-! ## EEPROM control word -/

/-- 60_exceptions.md R760, R761: what a control byte makes of EE_STATE, bit by bit, that Eeprom.receive is a poll of
the word so loaded or nothing, and where EE_DIR, EE_DIN and EE_ADDR read the word; EE_ADDR is the sum of
word[EE_ADDR_BIT[i]] << i. -/
def Obligations.EepromControlWord : Prop :=
  (∀ (c : Config) (p : PortNo) (v : Byte) (word : BitVec 16) (j : Nat), j < 16 →
      (eeLoad c p v word).getLsbD j =
        if p ∈ c.eeLoPorts ∧ j < 8 then v.getLsbD j
        else if p ∉ c.eeLoPorts ∧ p ∈ c.eeHiPorts ∧ 8 ≤ j then v.getLsbD (j - 8)
        else word.getLsbD j)
    ∧ (∀ (c : Config) (p : PortNo) (v : Byte) (e : Eeprom),
      (p ∈ c.eeLoPorts ∨ p ∈ c.eeHiPorts → eeReceive c p v e = eePoll c { e with state := eeLoad c p v e.state })
      ∧ (p ∉ c.eeLoPorts → p ∉ c.eeHiPorts → eeReceive c p v e = e))
    ∧ ∀ (c : Config) (word : BitVec 16),
      (eeDir c word = .write ↔ word.getLsbD c.eeDirBit.toNat = c.eeDirWrite)
      ∧ (eeDin c word = 1 ↔ word.getLsbD c.eeDinBit.toNat = true)
      ∧ (c.eeAddrBit.length = 10 → (eeAddr c word).toNat =
          ((List.range 10).map fun i => (word.getLsbD (c.eeAddrBit.getD i 0).toNat).toNat * 2 ^ i).sum)
end

