-- ==== Sys2Proof/Laws/Cells.lean ====
section
/-! SUPPORT. Sparse cells: a read after a write, what an erasure and a truncation leave, that every operation keeps
the canonical form, and that equal contents are equal data in it. -/

namespace Sys2Proof.Machine

@[simp] theorem Cells.read_nil {w : Nat} (a : Nat) : Cells.read ([] : Cells w) a = 0 := rfl

theorem Cells.read_cons {w : Nat} (k : Nat) (v : BitVec w) (m : Cells w) (a : Nat) :
    Cells.read ((k, v) :: m) a = if a = k then v else Cells.read m a := rfl

/-- A filter on the index either keeps a cell or makes it read 0. -/
theorem Cells.read_filter {w : Nat} (p : Nat → Bool) (m : Cells w) (a : Nat) :
    Cells.read (m.filter fun e => p e.1) a = if p a then Cells.read m a else 0 := by
  induction m with
  | nil => simp
  | cons e m ih =>
    obtain ⟨k, v⟩ := e
    by_cases hk : a = k
    · subst hk
      cases hp : p a <;> simp [hp, Cells.read_cons, ih]
    · cases hp : p k <;> simp [hp, Cells.read_cons, ih, hk]

@[simp] theorem Cells.read_erase {w : Nat} (m : Cells w) (a b : Nat) :
    Cells.read (m.erase a) b = if b = a then 0 else Cells.read m b := by
  rw [Cells.erase, Cells.read_filter (fun k => k != a)]
  by_cases h : b = a <;> simp [h]

@[simp] theorem Cells.read_below {w : Nat} (m : Cells w) (limit a : Nat) :
    Cells.read (m.below limit) a = if a < limit then Cells.read m a else 0 := by
  rw [Cells.below, Cells.read_filter (fun k => decide (k < limit))]
  simp

/-- An insertion shows at its index, whatever other entries there are, if no entry stood there. -/
theorem Cells.read_insert {w : Nat} (a : Nat) (v : BitVec w) (m : Cells w) (b : Nat)
    (h : ∀ e ∈ m, e.1 ≠ a) : Cells.read (Cells.insert a v m) b = if b = a then v else Cells.read m b := by
  induction m with
  | nil => simp [Cells.insert, Cells.read_cons]
  | cons e m ih =>
    obtain ⟨k, x⟩ := e
    have hk : k ≠ a := h (k, x) (by simp)
    have ih := ih fun e he => h e (by simp [he])
    unfold Cells.insert
    split
    · rw [Cells.read_cons]
    · rw [Cells.read_cons, Cells.read_cons, ih]
      by_cases hb : b = k
      · simp [hb, hk]
      · simp [hb]

theorem Cells.mem_erase {w : Nat} (m : Cells w) (a : Nat) : ∀ e ∈ m.erase a, e.1 ≠ a := by
  intro e he
  simpa [Cells.erase] using (List.mem_filter.mp he).2

/-- A read after a write: the value written at its index, and elsewhere what stood there. -/
@[simp] theorem Cells.read_write {w : Nat} (m : Cells w) (a : Nat) (v : BitVec w) (b : Nat) :
    Cells.read (m.write a v) b = if b = a then v else Cells.read m b := by
  unfold Cells.write
  split
  · simp [*]
  · rw [Cells.read_insert a v _ b (Cells.mem_erase m a), Cells.read_erase]
    by_cases hb : b = a <;> simp [hb]

@[simp] theorem Cells.wf_nil {w : Nat} (bound : Nat) : Cells.wf bound ([] : Cells w) = true := rfl

theorem Cells.wfFrom_cons {w : Nat} (bound lo k : Nat) (v : BitVec w) (m : Cells w) :
    Cells.wfFrom bound lo ((k, v) :: m) = true ↔
      lo ≤ k ∧ k < bound ∧ v ≠ 0 ∧ Cells.wfFrom bound (k + 1) m = true := by
  simp [Cells.wfFrom, and_assoc]

theorem Cells.wfFrom_mono {w : Nat} {bound lo lo' : Nat} {m : Cells w} (hle : lo' ≤ lo)
    (h : Cells.wfFrom bound lo m = true) : Cells.wfFrom bound lo' m = true := by
  cases m with
  | nil => rfl
  | cons e m =>
    obtain ⟨k, v⟩ := e
    rw [Cells.wfFrom_cons] at h ⊢
    exact ⟨hle.trans h.1, h.2⟩

theorem Cells.wfFrom_filter {w : Nat} (p : Nat × BitVec w → Bool) {bound : Nat} (m : Cells w) :
    ∀ lo, Cells.wfFrom bound lo m = true → Cells.wfFrom bound lo (m.filter p) = true := by
  induction m with
  | nil => intro lo h; exact h
  | cons e m ih =>
    intro lo h
    obtain ⟨k, v⟩ := e
    rw [Cells.wfFrom_cons] at h
    rw [List.filter_cons]
    split
    · exact (Cells.wfFrom_cons ..).mpr ⟨h.1, h.2.1, h.2.2.1, ih _ h.2.2.2⟩
    · exact ih _ (Cells.wfFrom_mono (Nat.le_succ_of_le h.1) h.2.2.2)

theorem Cells.wfFrom_insert {w : Nat} {bound a : Nat} {v : BitVec w} (hv : v ≠ 0) (ha : a < bound) (m : Cells w) :
    ∀ lo, lo ≤ a → (∀ e ∈ m, e.1 ≠ a) → Cells.wfFrom bound lo m = true →
      Cells.wfFrom bound lo (Cells.insert a v m) = true := by
  induction m with
  | nil =>
    intro lo hlo _ _
    exact (Cells.wfFrom_cons ..).mpr ⟨hlo, ha, hv, rfl⟩
  | cons e m ih =>
    intro lo hlo hne h
    obtain ⟨k, x⟩ := e
    have hk : k ≠ a := hne (k, x) (by simp)
    rw [Cells.wfFrom_cons] at h
    unfold Cells.insert
    split
    · exact (Cells.wfFrom_cons ..).mpr ⟨hlo, ha, hv, (Cells.wfFrom_cons ..).mpr ⟨by omega, h.2⟩⟩
    · exact (Cells.wfFrom_cons ..).mpr
        ⟨h.1, h.2.1, h.2.2.1, ih _ (by omega) (fun e he => hne e (by simp [he])) h.2.2.2⟩

/-- A write below the bound keeps the canonical form. -/
theorem Cells.wf_write {w : Nat} {bound : Nat} {m : Cells w} (a : Nat) (v : BitVec w) (ha : a < bound)
    (h : Cells.wf bound m = true) : Cells.wf bound (m.write a v) = true := by
  unfold Cells.write
  split
  · exact Cells.wfFrom_filter _ m 0 h
  · exact Cells.wfFrom_insert ‹_› ha _ 0 (Nat.zero_le _) (Cells.mem_erase m a) (Cells.wfFrom_filter _ m 0 h)

/-- A truncation keeps the canonical form. -/
theorem Cells.wf_below {w : Nat} {bound : Nat} {m : Cells w} (limit : Nat) (h : Cells.wf bound m = true) :
    Cells.wf bound (m.below limit) = true := Cells.wfFrom_filter _ m 0 h

theorem Cells.read_of_wfFrom_lt {w : Nat} {bound : Nat} (m : Cells w) :
    ∀ lo a, Cells.wfFrom bound lo m = true → a < lo → Cells.read m a = 0 := by
  induction m with
  | nil => intros; rfl
  | cons e m ih =>
    intro lo a h ha
    obtain ⟨k, v⟩ := e
    rw [Cells.wfFrom_cons] at h
    rw [Cells.read_cons, if_neg (by omega), ih (k + 1) a h.2.2.2 (by omega)]

/-- In the canonical form, cells that read alike are equal data. -/
theorem Cells.eq_of_read_eq {w : Nat} {bound : Nat} (m : Cells w) :
    ∀ (n : Cells w) (lo : Nat), Cells.wfFrom bound lo m = true → Cells.wfFrom bound lo n = true →
      (∀ a, Cells.read m a = Cells.read n a) → m = n := by
  induction m with
  | nil =>
    intro n lo _ hn h
    cases n with
    | nil => rfl
    | cons e n =>
      obtain ⟨k, v⟩ := e
      rw [Cells.wfFrom_cons] at hn
      have := h k
      rw [Cells.read_nil, Cells.read_cons, if_pos rfl] at this
      exact absurd this.symm hn.2.2.1
  | cons e m ih =>
    intro n lo hm hn h
    obtain ⟨k, v⟩ := e
    rw [Cells.wfFrom_cons] at hm
    cases n with
    | nil =>
      have := h k
      rw [Cells.read_nil, Cells.read_cons, if_pos rfl] at this
      exact absurd this hm.2.2.1
    | cons e' n =>
      obtain ⟨j, x⟩ := e'
      rw [Cells.wfFrom_cons] at hn
      have hkj : k = j := by
        rcases Nat.lt_trichotomy k j with hlt | heq | hgt
        · have := h k
          rw [Cells.read_cons, if_pos rfl, Cells.read_cons, if_neg (by omega),
            Cells.read_of_wfFrom_lt n _ k hn.2.2.2 (by omega)] at this
          exact absurd this hm.2.2.1
        · exact heq
        · have := h j
          rw [Cells.read_cons, if_neg (by omega), Cells.read_cons, if_pos rfl,
            Cells.read_of_wfFrom_lt m _ j hm.2.2.2 (by omega)] at this
          exact absurd this.symm hn.2.2.1
      subst hkj
      have hvx : v = x := by
        have := h k
        rwa [Cells.read_cons, if_pos rfl, Cells.read_cons, if_pos rfl] at this
      subst hvx
      have : m = n := by
        refine ih n (k + 1) hm.2.2.2 hn.2.2.2 fun a => ?_
        by_cases ha : a < k + 1
        · rw [Cells.read_of_wfFrom_lt m _ a hm.2.2.2 ha, Cells.read_of_wfFrom_lt n _ a hn.2.2.2 ha]
        · have := h a
          rwa [Cells.read_cons, Cells.read_cons, if_neg (by omega), if_neg (by omega)] at this
      rw [this]

end Sys2Proof.Machine
end

