-- ==== Sys2Proof/Laws/Config.lean ====
section
/-! SUPPORT. The parameters of the test vectors meet every constraint, and so do the machine's own. -/

namespace Sys2Proof

theorem testVectors_valid : Config.testVectors.valid = true := by decide +kernel

theorem parameters_valid : Config.parameters.valid = true := by
  unfold Config.parameters
  split
  · assumption
  · exact testVectors_valid

end Sys2Proof
end

