-- ==== Sys2Proof/Laws/Flags.lean ====
section
/-! SUPPORT. The flag functions in closed form: W after SetFlags as its five flags, and the results and flags of each
flag function in the terms of Safety.lean. -/

namespace Sys2Proof.Machine

theorem packW_eq (icb o z c s : Bool) (w : BitVec 5) (h : icb = w.getLsbD 4) :
    setFlags { s := s, c := c, z := z, o := o } w = packW icb o z c s := by
  subst h
  revert w o z c s
  decide

/-- SetFlags keeps ICB and takes the other flags from the record. -/
theorem setFlags_eq (f : FlagSet) (w : BitVec 5) : setFlags f w = packW (w.getLsbD 4) f.o f.z f.c f.s :=
  packW_eq _ _ _ _ _ w rfl

theorem packW_getLsbD (icb o z c s : Bool) :
    (packW icb o z c s).getLsbD 0 = s ∧ (packW icb o z c s).getLsbD 1 = c ∧ (packW icb o z c s).getLsbD 2 = z
      ∧ (packW icb o z c s).getLsbD 3 = o ∧ (packW icb o z c s).getLsbD 4 = icb := by
  revert icb o z c s
  decide

/-- W is its five flags. -/
theorem State.w_eq (s : State) : s.w = packW s.flagICB s.flagO s.flagZ s.flagC s.flagS := by
  have : ∀ w : BitVec 5, w = packW (w.getLsbD 4) (w.getLsbD 3) (w.getLsbD 2) (w.getLsbD 1) (w.getLsbD 0) := by
    decide
  exact this s.w

theorem setFlags_logic8 (r : Byte) (w : BitVec 5) : setFlags (logic8 r).2 w = logicW (w.getLsbD 4) r :=
  setFlags_eq _ w

@[simp] theorem add8_fst (a b : Byte) : (add8 a b).1 = a + b := by
  apply BitVec.eq_of_toNat_eq
  simp [add8]

theorem testBit_eight (n : Nat) (h : n < 512) : n.testBit 8 = decide (256 ≤ n) := by
  rw [Nat.testBit_eq_decide_div_mod_eq]
  simp only [decide_eq_decide]
  omega

theorem testBit_seven (n : Nat) (h : n ≤ 256) : n.testBit 7 = decide (128 ≤ n ∧ n < 256) := by
  rw [Nat.testBit_eq_decide_div_mod_eq]
  simp only [decide_eq_decide]
  omega

/-- Add8's carry: the 9-bit sum is 256 or more. -/
theorem add8_carry (a b : Byte) : (add8 a b).2.c = decide (256 ≤ a.toNat + b.toNat) :=
  testBit_eight _ (by omega)

theorem carry_msb (a b : Byte) : (a.zeroExtend 9 + b.zeroExtend 9).msb = decide (256 ≤ a.toNat + b.toNat) := by
  have ha := a.isLt
  have hb := b.isLt
  rw [BitVec.msb_eq_decide, BitVec.toNat_add, BitVec.toNat_setWidth, BitVec.toNat_setWidth]
  simp only [decide_eq_decide]
  omega

/-- W after Add8's flags. -/
theorem setFlags_add8 (a b : Byte) (w : BitVec 5) : setFlags (add8 a b).2 w = addW (w.getLsbD 4) a b := by
  have h := add8_fst a b
  rw [setFlags_eq, addW, carry_msb, ← add8_carry, ← h]
  rfl

@[simp] theorem sub8_fst (a b : Byte) : (sub8 a b).1 = a - b := by
  apply BitVec.eq_of_toNat_eq
  have ha := a.isLt
  have hb := b.isLt
  have hx : (b ^^^ 0xFF#8).toNat = 255 - b.toNat := by
    rw [show b ^^^ 0xFF#8 = ~~~b from BitVec.xor_allOnes, BitVec.toNat_not]
  simp only [sub8, hx, BitVec.toNat_ofNat, BitVec.toNat_sub]
  omega

theorem sub8_negated (b : Byte) : (b ^^^ 0xFF#8).toNat + 1 = 256 - b.toNat := by
  have hb := b.isLt
  rw [show b ^^^ 0xFF#8 = ~~~b from BitVec.xor_allOnes, BitVec.toNat_not]
  omega

/-- Sub8's carry: no borrow. -/
theorem sub8_carry (a b : Byte) : (sub8 a b).2.c = decide (b.toNat ≤ a.toNat) := by
  have ha := a.isLt
  have hb := b.isLt
  have h : (sub8 a b).2.c = (a.toNat + ((b ^^^ 0xFF#8).toNat + 1)).testBit 8 := rfl
  rw [h, sub8_negated, testBit_eight _ (by omega)]
  simp only [decide_eq_decide]
  omega

/-- W after Sub8's flags. -/
theorem setFlags_sub8 (a b : Byte) (w : BitVec 5) : setFlags (sub8 a b).2 w = subW (w.getLsbD 4) a b := by
  have h := sub8_fst a b
  have hb := b.isLt
  have hn : ((b ^^^ 0xFF#8).toNat + 1).testBit 7 = (-b).msb := by
    rw [sub8_negated, testBit_seven _ (by omega), BitVec.msb_eq_decide, BitVec.toNat_neg]
    simp only [decide_eq_decide]
    omega
  have hz : (a - b == 0) = (a == b) := by
    rw [Bool.eq_iff_iff, beq_iff_eq, beq_iff_eq]
    exact BitVec.sub_eq_iff_eq_add.trans (by simp)
  rw [setFlags_eq, subW, ← sub8_carry, ← hz, ← hn, ← h]
  rfl

/-- DecAdd8 sets the binary add's flags. -/
@[simp] theorem decAdd8_snd (a b : Byte) : (decAdd8 a b).2 = (add8 a b).2 := rfl

/-- A byte put together from a high and a low nibble. -/
theorem nibble_or (hi lo : Byte) :
    ((hi &&& 0xF0#8) ||| (lo &&& 0x0F#8)).toNat = 16 * (hi.toNat / 16) + lo.toNat % 16 := by
  have h : (hi &&& 0xF0#8) ||| (lo &&& 0x0F#8) = (hi.extractLsb' 4 4 ++ lo.extractLsb' 0 4 : BitVec (4 + 4)) := by
    apply BitVec.eq_of_getLsbD_eq
    intro i h8
    have : i = 0 ∨ i = 1 ∨ i = 2 ∨ i = 3 ∨ i = 4 ∨ i = 5 ∨ i = 6 ∨ i = 7 := by omega
    rw [BitVec.getLsbD_append, BitVec.getLsbD_or, BitVec.getLsbD_and, BitVec.getLsbD_and,
      BitVec.getLsbD_extractLsb', BitVec.getLsbD_extractLsb']
    rcases this with rfl | rfl | rfl | rfl | rfl | rfl | rfl | rfl <;> simp
  have hl := lo.isLt
  have hh := hi.isLt
  rw [h, BitVec.toNat_append, BitVec.extractLsb'_toNat, BitVec.extractLsb'_toNat,
    ← Nat.shiftLeft_add_eq_or_of_lt (Nat.mod_lt _ (by decide))]
  simp only [Nat.shiftLeft_eq, Nat.shiftRight_eq_div_pow]
  omega

theorem low_nibble (x : Byte) : (x &&& 0x0F#8).toNat = x.toNat % 16 := by
  rw [BitVec.toNat_and]; exact Nat.and_two_pow_sub_one_eq_mod x.toNat 4

theorem high_nibble (x : Byte) : (x &&& 0xF0#8).toNat = 16 * (x.toNat / 16) := by
  simpa using nibble_or x 0

/-- DecAdd8's digits, nibble by nibble. -/
theorem decAdd8_fst (a b : Byte) : (decAdd8 a b).1 = decDigits a b := by
  have ha := a.isLt
  have hb := b.isLt
  have hsum : (a + b).toNat = (a.toNat + b.toNat) % 256 := BitVec.toNat_add a b
  have hdef : (decAdd8 a b).1 =
      (((if (a.toNat + b.toNat).testBit 8 then a + b else (((a + b) &&& 0xF0#8) + 0xA0#8)) &&& 0xF0#8)
        ||| ((if (a &&& 0x0F#8).toNat + (b &&& 0x0F#8).toNat ≥ 0x10 then a + b
          else (((a + b) &&& 0x0F#8) + 0x0A#8)) &&& 0x0F#8)) := by
    rw [← add8_fst]
    simp only [decAdd8, decide_eq_true_eq]
    split <;> split <;> rfl
  apply BitVec.eq_of_toNat_eq
  rw [hdef, nibble_or, testBit_eight _ (by omega), low_nibble, low_nibble, decDigits, BitVec.toNat_ofNat]
  simp only [decide_eq_true_eq, ge_iff_le]
  have hx := high_nibble (a + b)
  have hy := low_nibble (a + b)
  split <;> split <;> simp only [BitVec.toNat_add, BitVec.toNat_ofNat, hx, hy, hsum] <;> split <;>
    (simp only [Nat.reducePow, Nat.reduceMod]; omega)

end Sys2Proof.Machine
end

