-- ==== Sys2Proof/Laws/State.lean ====
section
/-! SUPPORT. For each update of the state and each field, what the field holds after it: every lemma is true by rfl,
so that no proof unfolds a record update. -/

namespace Sys2Proof.Machine

/-! setSp -/

@[simp] theorem State.setSp_cfg (s : State) (k : SpIndex) (v : Byte) : (s.setSp k v).cfg = s.cfg := rfl
@[simp] theorem State.setSp_a (s : State) (k : SpIndex) (v : Byte) : (s.setSp k v).a = s.a := rfl
@[simp] theorem State.setSp_w (s : State) (k : SpIndex) (v : Byte) : (s.setSp k v).w = s.w := rfl
@[simp] theorem State.setSp_isar (s : State) (k : SpIndex) (v : Byte) : (s.setSp k v).isar = s.isar := rfl
@[simp] theorem State.setSp_pc0 (s : State) (k : SpIndex) (v : Byte) : (s.setSp k v).pc0 = s.pc0 := rfl
@[simp] theorem State.setSp_pc1 (s : State) (k : SpIndex) (v : Byte) : (s.setSp k v).pc1 = s.pc1 := rfl
@[simp] theorem State.setSp_dc0 (s : State) (k : SpIndex) (v : Byte) : (s.setSp k v).dc0 = s.dc0 := rfl
@[simp] theorem State.setSp_dc1 (s : State) (k : SpIndex) (v : Byte) : (s.setSp k v).dc1 = s.dc1 := rfl
@[simp] theorem State.setSp_scratch (s : State) (k : SpIndex) (v : Byte) :
    (s.setSp k v).scratch = s.scratch.set k.toNat v k.isLt := rfl
@[simp] theorem State.setSp_mem (s : State) (k : SpIndex) (v : Byte) : (s.setSp k v).mem = s.mem := rfl
@[simp] theorem State.setSp_banked (s : State) (k : SpIndex) (v : Byte) : (s.setSp k v).banked = s.banked := rfl
@[simp] theorem State.setSp_image (s : State) (k : SpIndex) (v : Byte) : (s.setSp k v).image = s.image := rfl
@[simp] theorem State.setSp_bank (s : State) (k : SpIndex) (v : Byte) : (s.setSp k v).bank = s.bank := rfl
@[simp] theorem State.setSp_latch (s : State) (k : SpIndex) (v : Byte) : (s.setSp k v).latch = s.latch := rfl
@[simp] theorem State.setSp_eeprom (s : State) (k : SpIndex) (v : Byte) : (s.setSp k v).eeprom = s.eeprom := rfl
@[simp] theorem State.setSp_video (s : State) (k : SpIndex) (v : Byte) : (s.setSp k v).video = s.video := rfl
@[simp] theorem State.setSp_tone (s : State) (k : SpIndex) (v : Byte) : (s.setSp k v).tone = s.tone := rfl
@[simp] theorem State.setSp_sched (s : State) (k : SpIndex) (v : Byte) : (s.setSp k v).sched = s.sched := rfl
@[simp] theorem State.setSp_hle (s : State) (k : SpIndex) (v : Byte) : (s.setSp k v).hle = s.hle := rfl
@[simp] theorem State.setSp_samples (s : State) (k : SpIndex) (v : Byte) : (s.setSp k v).samples = s.samples := rfl
@[simp] theorem State.setSp_frameOut (s : State) (k : SpIndex) (v : Byte) : (s.setSp k v).frameOut = s.frameOut := rfl
@[simp] theorem State.setSp_ticks (s : State) (k : SpIndex) (v : Byte) : (s.setSp k v).ticks = s.ticks := rfl
@[simp] theorem State.setSp_draws (s : State) (k : SpIndex) (v : Byte) : (s.setSp k v).draws = s.draws := rfl

/-! setPairH -/

@[simp] theorem State.setPairH_cfg (s : State) (v : Addr) : (s.setPairH v).cfg = s.cfg := rfl
@[simp] theorem State.setPairH_a (s : State) (v : Addr) : (s.setPairH v).a = s.a := rfl
@[simp] theorem State.setPairH_w (s : State) (v : Addr) : (s.setPairH v).w = s.w := rfl
@[simp] theorem State.setPairH_isar (s : State) (v : Addr) : (s.setPairH v).isar = s.isar := rfl
@[simp] theorem State.setPairH_pc0 (s : State) (v : Addr) : (s.setPairH v).pc0 = s.pc0 := rfl
@[simp] theorem State.setPairH_pc1 (s : State) (v : Addr) : (s.setPairH v).pc1 = s.pc1 := rfl
@[simp] theorem State.setPairH_dc0 (s : State) (v : Addr) : (s.setPairH v).dc0 = s.dc0 := rfl
@[simp] theorem State.setPairH_dc1 (s : State) (v : Addr) : (s.setPairH v).dc1 = s.dc1 := rfl
@[simp] theorem State.setPairH_scratch (s : State) (v : Addr) :
    (s.setPairH v).scratch = (s.scratch.set 10 (highByte v)).set 11 (lowByte v) := rfl
@[simp] theorem State.setPairH_mem (s : State) (v : Addr) : (s.setPairH v).mem = s.mem := rfl
@[simp] theorem State.setPairH_banked (s : State) (v : Addr) : (s.setPairH v).banked = s.banked := rfl
@[simp] theorem State.setPairH_image (s : State) (v : Addr) : (s.setPairH v).image = s.image := rfl
@[simp] theorem State.setPairH_bank (s : State) (v : Addr) : (s.setPairH v).bank = s.bank := rfl
@[simp] theorem State.setPairH_latch (s : State) (v : Addr) : (s.setPairH v).latch = s.latch := rfl
@[simp] theorem State.setPairH_eeprom (s : State) (v : Addr) : (s.setPairH v).eeprom = s.eeprom := rfl
@[simp] theorem State.setPairH_video (s : State) (v : Addr) : (s.setPairH v).video = s.video := rfl
@[simp] theorem State.setPairH_tone (s : State) (v : Addr) : (s.setPairH v).tone = s.tone := rfl
@[simp] theorem State.setPairH_sched (s : State) (v : Addr) : (s.setPairH v).sched = s.sched := rfl
@[simp] theorem State.setPairH_hle (s : State) (v : Addr) : (s.setPairH v).hle = s.hle := rfl
@[simp] theorem State.setPairH_samples (s : State) (v : Addr) : (s.setPairH v).samples = s.samples := rfl
@[simp] theorem State.setPairH_frameOut (s : State) (v : Addr) : (s.setPairH v).frameOut = s.frameOut := rfl
@[simp] theorem State.setPairH_ticks (s : State) (v : Addr) : (s.setPairH v).ticks = s.ticks := rfl
@[simp] theorem State.setPairH_draws (s : State) (v : Addr) : (s.setPairH v).draws = s.draws := rfl

/-! setPairK -/

@[simp] theorem State.setPairK_cfg (s : State) (v : Addr) : (s.setPairK v).cfg = s.cfg := rfl
@[simp] theorem State.setPairK_a (s : State) (v : Addr) : (s.setPairK v).a = s.a := rfl
@[simp] theorem State.setPairK_w (s : State) (v : Addr) : (s.setPairK v).w = s.w := rfl
@[simp] theorem State.setPairK_isar (s : State) (v : Addr) : (s.setPairK v).isar = s.isar := rfl
@[simp] theorem State.setPairK_pc0 (s : State) (v : Addr) : (s.setPairK v).pc0 = s.pc0 := rfl
@[simp] theorem State.setPairK_pc1 (s : State) (v : Addr) : (s.setPairK v).pc1 = s.pc1 := rfl
@[simp] theorem State.setPairK_dc0 (s : State) (v : Addr) : (s.setPairK v).dc0 = s.dc0 := rfl
@[simp] theorem State.setPairK_dc1 (s : State) (v : Addr) : (s.setPairK v).dc1 = s.dc1 := rfl
@[simp] theorem State.setPairK_scratch (s : State) (v : Addr) :
    (s.setPairK v).scratch = (s.scratch.set 12 (highByte v)).set 13 (lowByte v) := rfl
@[simp] theorem State.setPairK_mem (s : State) (v : Addr) : (s.setPairK v).mem = s.mem := rfl
@[simp] theorem State.setPairK_banked (s : State) (v : Addr) : (s.setPairK v).banked = s.banked := rfl
@[simp] theorem State.setPairK_image (s : State) (v : Addr) : (s.setPairK v).image = s.image := rfl
@[simp] theorem State.setPairK_bank (s : State) (v : Addr) : (s.setPairK v).bank = s.bank := rfl
@[simp] theorem State.setPairK_latch (s : State) (v : Addr) : (s.setPairK v).latch = s.latch := rfl
@[simp] theorem State.setPairK_eeprom (s : State) (v : Addr) : (s.setPairK v).eeprom = s.eeprom := rfl
@[simp] theorem State.setPairK_video (s : State) (v : Addr) : (s.setPairK v).video = s.video := rfl
@[simp] theorem State.setPairK_tone (s : State) (v : Addr) : (s.setPairK v).tone = s.tone := rfl
@[simp] theorem State.setPairK_sched (s : State) (v : Addr) : (s.setPairK v).sched = s.sched := rfl
@[simp] theorem State.setPairK_hle (s : State) (v : Addr) : (s.setPairK v).hle = s.hle := rfl
@[simp] theorem State.setPairK_samples (s : State) (v : Addr) : (s.setPairK v).samples = s.samples := rfl
@[simp] theorem State.setPairK_frameOut (s : State) (v : Addr) : (s.setPairK v).frameOut = s.frameOut := rfl
@[simp] theorem State.setPairK_ticks (s : State) (v : Addr) : (s.setPairK v).ticks = s.ticks := rfl
@[simp] theorem State.setPairK_draws (s : State) (v : Addr) : (s.setPairK v).draws = s.draws := rfl

/-! setPairQ -/

@[simp] theorem State.setPairQ_cfg (s : State) (v : Addr) : (s.setPairQ v).cfg = s.cfg := rfl
@[simp] theorem State.setPairQ_a (s : State) (v : Addr) : (s.setPairQ v).a = s.a := rfl
@[simp] theorem State.setPairQ_w (s : State) (v : Addr) : (s.setPairQ v).w = s.w := rfl
@[simp] theorem State.setPairQ_isar (s : State) (v : Addr) : (s.setPairQ v).isar = s.isar := rfl
@[simp] theorem State.setPairQ_pc0 (s : State) (v : Addr) : (s.setPairQ v).pc0 = s.pc0 := rfl
@[simp] theorem State.setPairQ_pc1 (s : State) (v : Addr) : (s.setPairQ v).pc1 = s.pc1 := rfl
@[simp] theorem State.setPairQ_dc0 (s : State) (v : Addr) : (s.setPairQ v).dc0 = s.dc0 := rfl
@[simp] theorem State.setPairQ_dc1 (s : State) (v : Addr) : (s.setPairQ v).dc1 = s.dc1 := rfl
@[simp] theorem State.setPairQ_scratch (s : State) (v : Addr) :
    (s.setPairQ v).scratch = (s.scratch.set 14 (highByte v)).set 15 (lowByte v) := rfl
@[simp] theorem State.setPairQ_mem (s : State) (v : Addr) : (s.setPairQ v).mem = s.mem := rfl
@[simp] theorem State.setPairQ_banked (s : State) (v : Addr) : (s.setPairQ v).banked = s.banked := rfl
@[simp] theorem State.setPairQ_image (s : State) (v : Addr) : (s.setPairQ v).image = s.image := rfl
@[simp] theorem State.setPairQ_bank (s : State) (v : Addr) : (s.setPairQ v).bank = s.bank := rfl
@[simp] theorem State.setPairQ_latch (s : State) (v : Addr) : (s.setPairQ v).latch = s.latch := rfl
@[simp] theorem State.setPairQ_eeprom (s : State) (v : Addr) : (s.setPairQ v).eeprom = s.eeprom := rfl
@[simp] theorem State.setPairQ_video (s : State) (v : Addr) : (s.setPairQ v).video = s.video := rfl
@[simp] theorem State.setPairQ_tone (s : State) (v : Addr) : (s.setPairQ v).tone = s.tone := rfl
@[simp] theorem State.setPairQ_sched (s : State) (v : Addr) : (s.setPairQ v).sched = s.sched := rfl
@[simp] theorem State.setPairQ_hle (s : State) (v : Addr) : (s.setPairQ v).hle = s.hle := rfl
@[simp] theorem State.setPairQ_samples (s : State) (v : Addr) : (s.setPairQ v).samples = s.samples := rfl
@[simp] theorem State.setPairQ_frameOut (s : State) (v : Addr) : (s.setPairQ v).frameOut = s.frameOut := rfl
@[simp] theorem State.setPairQ_ticks (s : State) (v : Addr) : (s.setPairQ v).ticks = s.ticks := rfl
@[simp] theorem State.setPairQ_draws (s : State) (v : Addr) : (s.setPairQ v).draws = s.draws := rfl

/-! memWrite -/

@[simp] theorem State.memWrite_cfg (s : State) (addr : Addr) (v : Byte) : (s.memWrite addr v).cfg = s.cfg := rfl
@[simp] theorem State.memWrite_a (s : State) (addr : Addr) (v : Byte) : (s.memWrite addr v).a = s.a := rfl
@[simp] theorem State.memWrite_w (s : State) (addr : Addr) (v : Byte) : (s.memWrite addr v).w = s.w := rfl
@[simp] theorem State.memWrite_isar (s : State) (addr : Addr) (v : Byte) : (s.memWrite addr v).isar = s.isar := rfl
@[simp] theorem State.memWrite_pc0 (s : State) (addr : Addr) (v : Byte) : (s.memWrite addr v).pc0 = s.pc0 := rfl
@[simp] theorem State.memWrite_pc1 (s : State) (addr : Addr) (v : Byte) : (s.memWrite addr v).pc1 = s.pc1 := rfl
@[simp] theorem State.memWrite_dc0 (s : State) (addr : Addr) (v : Byte) : (s.memWrite addr v).dc0 = s.dc0 := rfl
@[simp] theorem State.memWrite_dc1 (s : State) (addr : Addr) (v : Byte) : (s.memWrite addr v).dc1 = s.dc1 := rfl
@[simp] theorem State.memWrite_scratch (s : State) (addr : Addr) (v : Byte) :
    (s.memWrite addr v).scratch = s.scratch := rfl
@[simp] theorem State.memWrite_mem (s : State) (addr : Addr) (v : Byte) :
    (s.memWrite addr v).mem = if s.cfg.ramStart ≤ addr.toNat then Cells.write s.mem addr.toNat v else s.mem := rfl
@[simp] theorem State.memWrite_banked (s : State) (addr : Addr) (v : Byte) :
    (s.memWrite addr v).banked = s.banked := rfl
@[simp] theorem State.memWrite_image (s : State) (addr : Addr) (v : Byte) : (s.memWrite addr v).image = s.image := rfl
@[simp] theorem State.memWrite_bank (s : State) (addr : Addr) (v : Byte) :
    (s.memWrite addr v).bank = if s.banked && addr == s.cfg.bankSelectAddr then v else s.bank := rfl
@[simp] theorem State.memWrite_latch (s : State) (addr : Addr) (v : Byte) : (s.memWrite addr v).latch = s.latch := rfl
@[simp] theorem State.memWrite_eeprom (s : State) (addr : Addr) (v : Byte) :
    (s.memWrite addr v).eeprom = s.eeprom := rfl
@[simp] theorem State.memWrite_video (s : State) (addr : Addr) (v : Byte) : (s.memWrite addr v).video = s.video := rfl
@[simp] theorem State.memWrite_tone (s : State) (addr : Addr) (v : Byte) : (s.memWrite addr v).tone = s.tone := rfl
@[simp] theorem State.memWrite_sched (s : State) (addr : Addr) (v : Byte) : (s.memWrite addr v).sched = s.sched := rfl
@[simp] theorem State.memWrite_hle (s : State) (addr : Addr) (v : Byte) : (s.memWrite addr v).hle = s.hle := rfl
@[simp] theorem State.memWrite_samples (s : State) (addr : Addr) (v : Byte) :
    (s.memWrite addr v).samples = s.samples := rfl
@[simp] theorem State.memWrite_frameOut (s : State) (addr : Addr) (v : Byte) :
    (s.memWrite addr v).frameOut = s.frameOut := rfl
@[simp] theorem State.memWrite_ticks (s : State) (addr : Addr) (v : Byte) : (s.memWrite addr v).ticks = s.ticks := rfl
@[simp] theorem State.memWrite_draws (s : State) (addr : Addr) (v : Byte) : (s.memWrite addr v).draws = s.draws := rfl

/-! advanceDC -/

@[simp] theorem State.advanceDC_cfg (s : State) : (s.advanceDC).cfg = s.cfg := rfl
@[simp] theorem State.advanceDC_a (s : State) : (s.advanceDC).a = s.a := rfl
@[simp] theorem State.advanceDC_w (s : State) : (s.advanceDC).w = s.w := rfl
@[simp] theorem State.advanceDC_isar (s : State) : (s.advanceDC).isar = s.isar := rfl
@[simp] theorem State.advanceDC_pc0 (s : State) : (s.advanceDC).pc0 = s.pc0 := rfl
@[simp] theorem State.advanceDC_pc1 (s : State) : (s.advanceDC).pc1 = s.pc1 := rfl
@[simp] theorem State.advanceDC_dc0 (s : State) : (s.advanceDC).dc0 = s.dc0 + 1 := rfl
@[simp] theorem State.advanceDC_dc1 (s : State) : (s.advanceDC).dc1 = s.dc1 := rfl
@[simp] theorem State.advanceDC_scratch (s : State) : (s.advanceDC).scratch = s.scratch := rfl
@[simp] theorem State.advanceDC_mem (s : State) : (s.advanceDC).mem = s.mem := rfl
@[simp] theorem State.advanceDC_banked (s : State) : (s.advanceDC).banked = s.banked := rfl
@[simp] theorem State.advanceDC_image (s : State) : (s.advanceDC).image = s.image := rfl
@[simp] theorem State.advanceDC_bank (s : State) : (s.advanceDC).bank = s.bank := rfl
@[simp] theorem State.advanceDC_latch (s : State) : (s.advanceDC).latch = s.latch := rfl
@[simp] theorem State.advanceDC_eeprom (s : State) : (s.advanceDC).eeprom = s.eeprom := rfl
@[simp] theorem State.advanceDC_video (s : State) : (s.advanceDC).video = s.video := rfl
@[simp] theorem State.advanceDC_tone (s : State) : (s.advanceDC).tone = s.tone := rfl
@[simp] theorem State.advanceDC_sched (s : State) : (s.advanceDC).sched = s.sched := rfl
@[simp] theorem State.advanceDC_hle (s : State) : (s.advanceDC).hle = s.hle := rfl
@[simp] theorem State.advanceDC_samples (s : State) : (s.advanceDC).samples = s.samples := rfl
@[simp] theorem State.advanceDC_frameOut (s : State) : (s.advanceDC).frameOut = s.frameOut := rfl
@[simp] theorem State.advanceDC_ticks (s : State) : (s.advanceDC).ticks = s.ticks := rfl
@[simp] theorem State.advanceDC_draws (s : State) : (s.advanceDC).draws = s.draws := rfl

/-! setAcc -/

@[simp] theorem State.setAcc_cfg (s : State) (r : Byte × FlagSet) : (s.setAcc r).cfg = s.cfg := rfl
@[simp] theorem State.setAcc_a (s : State) (r : Byte × FlagSet) : (s.setAcc r).a = r.1 := rfl
@[simp] theorem State.setAcc_w (s : State) (r : Byte × FlagSet) : (s.setAcc r).w = setFlags r.2 s.w := rfl
@[simp] theorem State.setAcc_isar (s : State) (r : Byte × FlagSet) : (s.setAcc r).isar = s.isar := rfl
@[simp] theorem State.setAcc_pc0 (s : State) (r : Byte × FlagSet) : (s.setAcc r).pc0 = s.pc0 := rfl
@[simp] theorem State.setAcc_pc1 (s : State) (r : Byte × FlagSet) : (s.setAcc r).pc1 = s.pc1 := rfl
@[simp] theorem State.setAcc_dc0 (s : State) (r : Byte × FlagSet) : (s.setAcc r).dc0 = s.dc0 := rfl
@[simp] theorem State.setAcc_dc1 (s : State) (r : Byte × FlagSet) : (s.setAcc r).dc1 = s.dc1 := rfl
@[simp] theorem State.setAcc_scratch (s : State) (r : Byte × FlagSet) : (s.setAcc r).scratch = s.scratch := rfl
@[simp] theorem State.setAcc_mem (s : State) (r : Byte × FlagSet) : (s.setAcc r).mem = s.mem := rfl
@[simp] theorem State.setAcc_banked (s : State) (r : Byte × FlagSet) : (s.setAcc r).banked = s.banked := rfl
@[simp] theorem State.setAcc_image (s : State) (r : Byte × FlagSet) : (s.setAcc r).image = s.image := rfl
@[simp] theorem State.setAcc_bank (s : State) (r : Byte × FlagSet) : (s.setAcc r).bank = s.bank := rfl
@[simp] theorem State.setAcc_latch (s : State) (r : Byte × FlagSet) : (s.setAcc r).latch = s.latch := rfl
@[simp] theorem State.setAcc_eeprom (s : State) (r : Byte × FlagSet) : (s.setAcc r).eeprom = s.eeprom := rfl
@[simp] theorem State.setAcc_video (s : State) (r : Byte × FlagSet) : (s.setAcc r).video = s.video := rfl
@[simp] theorem State.setAcc_tone (s : State) (r : Byte × FlagSet) : (s.setAcc r).tone = s.tone := rfl
@[simp] theorem State.setAcc_sched (s : State) (r : Byte × FlagSet) : (s.setAcc r).sched = s.sched := rfl
@[simp] theorem State.setAcc_hle (s : State) (r : Byte × FlagSet) : (s.setAcc r).hle = s.hle := rfl
@[simp] theorem State.setAcc_samples (s : State) (r : Byte × FlagSet) : (s.setAcc r).samples = s.samples := rfl
@[simp] theorem State.setAcc_frameOut (s : State) (r : Byte × FlagSet) : (s.setAcc r).frameOut = s.frameOut := rfl
@[simp] theorem State.setAcc_ticks (s : State) (r : Byte × FlagSet) : (s.setAcc r).ticks = s.ticks := rfl
@[simp] theorem State.setAcc_draws (s : State) (r : Byte × FlagSet) : (s.setAcc r).draws = s.draws := rfl

/-! withFlags -/

@[simp] theorem State.withFlags_cfg (s : State) (f : FlagSet) : (s.withFlags f).cfg = s.cfg := rfl
@[simp] theorem State.withFlags_a (s : State) (f : FlagSet) : (s.withFlags f).a = s.a := rfl
@[simp] theorem State.withFlags_w (s : State) (f : FlagSet) : (s.withFlags f).w = setFlags f s.w := rfl
@[simp] theorem State.withFlags_isar (s : State) (f : FlagSet) : (s.withFlags f).isar = s.isar := rfl
@[simp] theorem State.withFlags_pc0 (s : State) (f : FlagSet) : (s.withFlags f).pc0 = s.pc0 := rfl
@[simp] theorem State.withFlags_pc1 (s : State) (f : FlagSet) : (s.withFlags f).pc1 = s.pc1 := rfl
@[simp] theorem State.withFlags_dc0 (s : State) (f : FlagSet) : (s.withFlags f).dc0 = s.dc0 := rfl
@[simp] theorem State.withFlags_dc1 (s : State) (f : FlagSet) : (s.withFlags f).dc1 = s.dc1 := rfl
@[simp] theorem State.withFlags_scratch (s : State) (f : FlagSet) : (s.withFlags f).scratch = s.scratch := rfl
@[simp] theorem State.withFlags_mem (s : State) (f : FlagSet) : (s.withFlags f).mem = s.mem := rfl
@[simp] theorem State.withFlags_banked (s : State) (f : FlagSet) : (s.withFlags f).banked = s.banked := rfl
@[simp] theorem State.withFlags_image (s : State) (f : FlagSet) : (s.withFlags f).image = s.image := rfl
@[simp] theorem State.withFlags_bank (s : State) (f : FlagSet) : (s.withFlags f).bank = s.bank := rfl
@[simp] theorem State.withFlags_latch (s : State) (f : FlagSet) : (s.withFlags f).latch = s.latch := rfl
@[simp] theorem State.withFlags_eeprom (s : State) (f : FlagSet) : (s.withFlags f).eeprom = s.eeprom := rfl
@[simp] theorem State.withFlags_video (s : State) (f : FlagSet) : (s.withFlags f).video = s.video := rfl
@[simp] theorem State.withFlags_tone (s : State) (f : FlagSet) : (s.withFlags f).tone = s.tone := rfl
@[simp] theorem State.withFlags_sched (s : State) (f : FlagSet) : (s.withFlags f).sched = s.sched := rfl
@[simp] theorem State.withFlags_hle (s : State) (f : FlagSet) : (s.withFlags f).hle = s.hle := rfl
@[simp] theorem State.withFlags_samples (s : State) (f : FlagSet) : (s.withFlags f).samples = s.samples := rfl
@[simp] theorem State.withFlags_frameOut (s : State) (f : FlagSet) : (s.withFlags f).frameOut = s.frameOut := rfl
@[simp] theorem State.withFlags_ticks (s : State) (f : FlagSet) : (s.withFlags f).ticks = s.ticks := rfl
@[simp] theorem State.withFlags_draws (s : State) (f : FlagSet) : (s.withFlags f).draws = s.draws := rfl

/-! charge -/

@[simp] theorem State.charge_cfg (s : State) (op : Byte) (taken : Bool) : (s.charge op taken).cfg = s.cfg := rfl
@[simp] theorem State.charge_a (s : State) (op : Byte) (taken : Bool) : (s.charge op taken).a = s.a := rfl
@[simp] theorem State.charge_w (s : State) (op : Byte) (taken : Bool) : (s.charge op taken).w = s.w := rfl
@[simp] theorem State.charge_isar (s : State) (op : Byte) (taken : Bool) : (s.charge op taken).isar = s.isar := rfl
@[simp] theorem State.charge_pc0 (s : State) (op : Byte) (taken : Bool) : (s.charge op taken).pc0 = s.pc0 := rfl
@[simp] theorem State.charge_pc1 (s : State) (op : Byte) (taken : Bool) : (s.charge op taken).pc1 = s.pc1 := rfl
@[simp] theorem State.charge_dc0 (s : State) (op : Byte) (taken : Bool) : (s.charge op taken).dc0 = s.dc0 := rfl
@[simp] theorem State.charge_dc1 (s : State) (op : Byte) (taken : Bool) : (s.charge op taken).dc1 = s.dc1 := rfl
@[simp] theorem State.charge_scratch (s : State) (op : Byte) (taken : Bool) :
    (s.charge op taken).scratch = s.scratch := rfl
@[simp] theorem State.charge_mem (s : State) (op : Byte) (taken : Bool) : (s.charge op taken).mem = s.mem := rfl
@[simp] theorem State.charge_banked (s : State) (op : Byte) (taken : Bool) :
    (s.charge op taken).banked = s.banked := rfl
@[simp] theorem State.charge_image (s : State) (op : Byte) (taken : Bool) : (s.charge op taken).image = s.image := rfl
@[simp] theorem State.charge_bank (s : State) (op : Byte) (taken : Bool) : (s.charge op taken).bank = s.bank := rfl
@[simp] theorem State.charge_latch (s : State) (op : Byte) (taken : Bool) : (s.charge op taken).latch = s.latch := rfl
@[simp] theorem State.charge_eeprom (s : State) (op : Byte) (taken : Bool) :
    (s.charge op taken).eeprom = s.eeprom := rfl
@[simp] theorem State.charge_video (s : State) (op : Byte) (taken : Bool) : (s.charge op taken).video = s.video := rfl
@[simp] theorem State.charge_tone (s : State) (op : Byte) (taken : Bool) : (s.charge op taken).tone = s.tone := rfl
@[simp] theorem State.charge_sched (s : State) (op : Byte) (taken : Bool) : (s.charge op taken).sched = s.sched := rfl
@[simp] theorem State.charge_hle (s : State) (op : Byte) (taken : Bool) : (s.charge op taken).hle = s.hle := rfl
@[simp] theorem State.charge_samples (s : State) (op : Byte) (taken : Bool) :
    (s.charge op taken).samples = s.samples := rfl
@[simp] theorem State.charge_frameOut (s : State) (op : Byte) (taken : Bool) :
    (s.charge op taken).frameOut = s.frameOut := rfl
@[simp] theorem State.charge_ticks (s : State) (op : Byte) (taken : Bool) :
    (s.charge op taken).ticks = cost s.cfg op taken := rfl
@[simp] theorem State.charge_draws (s : State) (op : Byte) (taken : Bool) : (s.charge op taken).draws = s.draws := rfl

/-! chargeUndef -/

@[simp] theorem State.chargeUndef_cfg (s : State) : (s.chargeUndef).cfg = s.cfg := rfl
@[simp] theorem State.chargeUndef_a (s : State) : (s.chargeUndef).a = s.a := rfl
@[simp] theorem State.chargeUndef_w (s : State) : (s.chargeUndef).w = s.w := rfl
@[simp] theorem State.chargeUndef_isar (s : State) : (s.chargeUndef).isar = s.isar := rfl
@[simp] theorem State.chargeUndef_pc0 (s : State) : (s.chargeUndef).pc0 = s.pc0 := rfl
@[simp] theorem State.chargeUndef_pc1 (s : State) : (s.chargeUndef).pc1 = s.pc1 := rfl
@[simp] theorem State.chargeUndef_dc0 (s : State) : (s.chargeUndef).dc0 = s.dc0 := rfl
@[simp] theorem State.chargeUndef_dc1 (s : State) : (s.chargeUndef).dc1 = s.dc1 := rfl
@[simp] theorem State.chargeUndef_scratch (s : State) : (s.chargeUndef).scratch = s.scratch := rfl
@[simp] theorem State.chargeUndef_mem (s : State) : (s.chargeUndef).mem = s.mem := rfl
@[simp] theorem State.chargeUndef_banked (s : State) : (s.chargeUndef).banked = s.banked := rfl
@[simp] theorem State.chargeUndef_image (s : State) : (s.chargeUndef).image = s.image := rfl
@[simp] theorem State.chargeUndef_bank (s : State) : (s.chargeUndef).bank = s.bank := rfl
@[simp] theorem State.chargeUndef_latch (s : State) : (s.chargeUndef).latch = s.latch := rfl
@[simp] theorem State.chargeUndef_eeprom (s : State) : (s.chargeUndef).eeprom = s.eeprom := rfl
@[simp] theorem State.chargeUndef_video (s : State) : (s.chargeUndef).video = s.video := rfl
@[simp] theorem State.chargeUndef_tone (s : State) : (s.chargeUndef).tone = s.tone := rfl
@[simp] theorem State.chargeUndef_sched (s : State) : (s.chargeUndef).sched = s.sched := rfl
@[simp] theorem State.chargeUndef_hle (s : State) : (s.chargeUndef).hle = s.hle := rfl
@[simp] theorem State.chargeUndef_samples (s : State) : (s.chargeUndef).samples = s.samples := rfl
@[simp] theorem State.chargeUndef_frameOut (s : State) : (s.chargeUndef).frameOut = s.frameOut := rfl
@[simp] theorem State.chargeUndef_ticks (s : State) : (s.chargeUndef).ticks = s.cfg.undefTicks := rfl
@[simp] theorem State.chargeUndef_draws (s : State) : (s.chargeUndef).draws = s.draws := rfl

/-! branch -/

@[simp] theorem State.branch_cfg (s : State) (op n : Byte) (taken : Bool) : (s.branch op n taken).cfg = s.cfg := rfl
@[simp] theorem State.branch_a (s : State) (op n : Byte) (taken : Bool) : (s.branch op n taken).a = s.a := rfl
@[simp] theorem State.branch_w (s : State) (op n : Byte) (taken : Bool) : (s.branch op n taken).w = s.w := rfl
@[simp] theorem State.branch_isar (s : State) (op n : Byte) (taken : Bool) :
    (s.branch op n taken).isar = s.isar := rfl
@[simp] theorem State.branch_pc0 (s : State) (op n : Byte) (taken : Bool) :
    (s.branch op n taken).pc0 = if taken then relative s.pc0 n else s.pc0 := rfl
@[simp] theorem State.branch_pc1 (s : State) (op n : Byte) (taken : Bool) : (s.branch op n taken).pc1 = s.pc1 := rfl
@[simp] theorem State.branch_dc0 (s : State) (op n : Byte) (taken : Bool) : (s.branch op n taken).dc0 = s.dc0 := rfl
@[simp] theorem State.branch_dc1 (s : State) (op n : Byte) (taken : Bool) : (s.branch op n taken).dc1 = s.dc1 := rfl
@[simp] theorem State.branch_scratch (s : State) (op n : Byte) (taken : Bool) :
    (s.branch op n taken).scratch = s.scratch := rfl
@[simp] theorem State.branch_mem (s : State) (op n : Byte) (taken : Bool) : (s.branch op n taken).mem = s.mem := rfl
@[simp] theorem State.branch_banked (s : State) (op n : Byte) (taken : Bool) :
    (s.branch op n taken).banked = s.banked := rfl
@[simp] theorem State.branch_image (s : State) (op n : Byte) (taken : Bool) :
    (s.branch op n taken).image = s.image := rfl
@[simp] theorem State.branch_bank (s : State) (op n : Byte) (taken : Bool) :
    (s.branch op n taken).bank = s.bank := rfl
@[simp] theorem State.branch_latch (s : State) (op n : Byte) (taken : Bool) :
    (s.branch op n taken).latch = s.latch := rfl
@[simp] theorem State.branch_eeprom (s : State) (op n : Byte) (taken : Bool) :
    (s.branch op n taken).eeprom = s.eeprom := rfl
@[simp] theorem State.branch_video (s : State) (op n : Byte) (taken : Bool) :
    (s.branch op n taken).video = s.video := rfl
@[simp] theorem State.branch_tone (s : State) (op n : Byte) (taken : Bool) :
    (s.branch op n taken).tone = s.tone := rfl
@[simp] theorem State.branch_sched (s : State) (op n : Byte) (taken : Bool) :
    (s.branch op n taken).sched = s.sched := rfl
@[simp] theorem State.branch_hle (s : State) (op n : Byte) (taken : Bool) : (s.branch op n taken).hle = s.hle := rfl
@[simp] theorem State.branch_samples (s : State) (op n : Byte) (taken : Bool) :
    (s.branch op n taken).samples = s.samples := rfl
@[simp] theorem State.branch_frameOut (s : State) (op n : Byte) (taken : Bool) :
    (s.branch op n taken).frameOut = s.frameOut := rfl
@[simp] theorem State.branch_ticks (s : State) (op n : Byte) (taken : Bool) :
    (s.branch op n taken).ticks = cost s.cfg op taken := rfl
@[simp] theorem State.branch_draws (s : State) (op n : Byte) (taken : Bool) :
    (s.branch op n taken).draws = s.draws := rfl

/-! loadA -/

@[simp] theorem State.loadA_cfg (s : State) (v : Byte) : (s.loadA v).cfg = s.cfg := rfl
@[simp] theorem State.loadA_a (s : State) (v : Byte) : (s.loadA v).a = v := rfl
@[simp] theorem State.loadA_w (s : State) (v : Byte) : (s.loadA v).w = s.w := rfl
@[simp] theorem State.loadA_isar (s : State) (v : Byte) : (s.loadA v).isar = s.isar := rfl
@[simp] theorem State.loadA_pc0 (s : State) (v : Byte) : (s.loadA v).pc0 = s.pc0 := rfl
@[simp] theorem State.loadA_pc1 (s : State) (v : Byte) : (s.loadA v).pc1 = s.pc1 := rfl
@[simp] theorem State.loadA_dc0 (s : State) (v : Byte) : (s.loadA v).dc0 = s.dc0 := rfl
@[simp] theorem State.loadA_dc1 (s : State) (v : Byte) : (s.loadA v).dc1 = s.dc1 := rfl
@[simp] theorem State.loadA_scratch (s : State) (v : Byte) : (s.loadA v).scratch = s.scratch := rfl
@[simp] theorem State.loadA_mem (s : State) (v : Byte) : (s.loadA v).mem = s.mem := rfl
@[simp] theorem State.loadA_banked (s : State) (v : Byte) : (s.loadA v).banked = s.banked := rfl
@[simp] theorem State.loadA_image (s : State) (v : Byte) : (s.loadA v).image = s.image := rfl
@[simp] theorem State.loadA_bank (s : State) (v : Byte) : (s.loadA v).bank = s.bank := rfl
@[simp] theorem State.loadA_latch (s : State) (v : Byte) : (s.loadA v).latch = s.latch := rfl
@[simp] theorem State.loadA_eeprom (s : State) (v : Byte) : (s.loadA v).eeprom = s.eeprom := rfl
@[simp] theorem State.loadA_video (s : State) (v : Byte) : (s.loadA v).video = s.video := rfl
@[simp] theorem State.loadA_tone (s : State) (v : Byte) : (s.loadA v).tone = s.tone := rfl
@[simp] theorem State.loadA_sched (s : State) (v : Byte) : (s.loadA v).sched = s.sched := rfl
@[simp] theorem State.loadA_hle (s : State) (v : Byte) : (s.loadA v).hle = s.hle := rfl
@[simp] theorem State.loadA_samples (s : State) (v : Byte) : (s.loadA v).samples = s.samples := rfl
@[simp] theorem State.loadA_frameOut (s : State) (v : Byte) : (s.loadA v).frameOut = s.frameOut := rfl
@[simp] theorem State.loadA_ticks (s : State) (v : Byte) : (s.loadA v).ticks = s.ticks := rfl
@[simp] theorem State.loadA_draws (s : State) (v : Byte) : (s.loadA v).draws = s.draws := rfl

/-! setIsar -/

@[simp] theorem State.setIsar_cfg (s : State) (v : SpIndex) : (s.setIsar v).cfg = s.cfg := rfl
@[simp] theorem State.setIsar_a (s : State) (v : SpIndex) : (s.setIsar v).a = s.a := rfl
@[simp] theorem State.setIsar_w (s : State) (v : SpIndex) : (s.setIsar v).w = s.w := rfl
@[simp] theorem State.setIsar_isar (s : State) (v : SpIndex) : (s.setIsar v).isar = v := rfl
@[simp] theorem State.setIsar_pc0 (s : State) (v : SpIndex) : (s.setIsar v).pc0 = s.pc0 := rfl
@[simp] theorem State.setIsar_pc1 (s : State) (v : SpIndex) : (s.setIsar v).pc1 = s.pc1 := rfl
@[simp] theorem State.setIsar_dc0 (s : State) (v : SpIndex) : (s.setIsar v).dc0 = s.dc0 := rfl
@[simp] theorem State.setIsar_dc1 (s : State) (v : SpIndex) : (s.setIsar v).dc1 = s.dc1 := rfl
@[simp] theorem State.setIsar_scratch (s : State) (v : SpIndex) : (s.setIsar v).scratch = s.scratch := rfl
@[simp] theorem State.setIsar_mem (s : State) (v : SpIndex) : (s.setIsar v).mem = s.mem := rfl
@[simp] theorem State.setIsar_banked (s : State) (v : SpIndex) : (s.setIsar v).banked = s.banked := rfl
@[simp] theorem State.setIsar_image (s : State) (v : SpIndex) : (s.setIsar v).image = s.image := rfl
@[simp] theorem State.setIsar_bank (s : State) (v : SpIndex) : (s.setIsar v).bank = s.bank := rfl
@[simp] theorem State.setIsar_latch (s : State) (v : SpIndex) : (s.setIsar v).latch = s.latch := rfl
@[simp] theorem State.setIsar_eeprom (s : State) (v : SpIndex) : (s.setIsar v).eeprom = s.eeprom := rfl
@[simp] theorem State.setIsar_video (s : State) (v : SpIndex) : (s.setIsar v).video = s.video := rfl
@[simp] theorem State.setIsar_tone (s : State) (v : SpIndex) : (s.setIsar v).tone = s.tone := rfl
@[simp] theorem State.setIsar_sched (s : State) (v : SpIndex) : (s.setIsar v).sched = s.sched := rfl
@[simp] theorem State.setIsar_hle (s : State) (v : SpIndex) : (s.setIsar v).hle = s.hle := rfl
@[simp] theorem State.setIsar_samples (s : State) (v : SpIndex) : (s.setIsar v).samples = s.samples := rfl
@[simp] theorem State.setIsar_frameOut (s : State) (v : SpIndex) : (s.setIsar v).frameOut = s.frameOut := rfl
@[simp] theorem State.setIsar_ticks (s : State) (v : SpIndex) : (s.setIsar v).ticks = s.ticks := rfl
@[simp] theorem State.setIsar_draws (s : State) (v : SpIndex) : (s.setIsar v).draws = s.draws := rfl

/-! setW -/

@[simp] theorem State.setW_cfg (s : State) (v : BitVec 5) : (s.setW v).cfg = s.cfg := rfl
@[simp] theorem State.setW_a (s : State) (v : BitVec 5) : (s.setW v).a = s.a := rfl
@[simp] theorem State.setW_w (s : State) (v : BitVec 5) : (s.setW v).w = v := rfl
@[simp] theorem State.setW_isar (s : State) (v : BitVec 5) : (s.setW v).isar = s.isar := rfl
@[simp] theorem State.setW_pc0 (s : State) (v : BitVec 5) : (s.setW v).pc0 = s.pc0 := rfl
@[simp] theorem State.setW_pc1 (s : State) (v : BitVec 5) : (s.setW v).pc1 = s.pc1 := rfl
@[simp] theorem State.setW_dc0 (s : State) (v : BitVec 5) : (s.setW v).dc0 = s.dc0 := rfl
@[simp] theorem State.setW_dc1 (s : State) (v : BitVec 5) : (s.setW v).dc1 = s.dc1 := rfl
@[simp] theorem State.setW_scratch (s : State) (v : BitVec 5) : (s.setW v).scratch = s.scratch := rfl
@[simp] theorem State.setW_mem (s : State) (v : BitVec 5) : (s.setW v).mem = s.mem := rfl
@[simp] theorem State.setW_banked (s : State) (v : BitVec 5) : (s.setW v).banked = s.banked := rfl
@[simp] theorem State.setW_image (s : State) (v : BitVec 5) : (s.setW v).image = s.image := rfl
@[simp] theorem State.setW_bank (s : State) (v : BitVec 5) : (s.setW v).bank = s.bank := rfl
@[simp] theorem State.setW_latch (s : State) (v : BitVec 5) : (s.setW v).latch = s.latch := rfl
@[simp] theorem State.setW_eeprom (s : State) (v : BitVec 5) : (s.setW v).eeprom = s.eeprom := rfl
@[simp] theorem State.setW_video (s : State) (v : BitVec 5) : (s.setW v).video = s.video := rfl
@[simp] theorem State.setW_tone (s : State) (v : BitVec 5) : (s.setW v).tone = s.tone := rfl
@[simp] theorem State.setW_sched (s : State) (v : BitVec 5) : (s.setW v).sched = s.sched := rfl
@[simp] theorem State.setW_hle (s : State) (v : BitVec 5) : (s.setW v).hle = s.hle := rfl
@[simp] theorem State.setW_samples (s : State) (v : BitVec 5) : (s.setW v).samples = s.samples := rfl
@[simp] theorem State.setW_frameOut (s : State) (v : BitVec 5) : (s.setW v).frameOut = s.frameOut := rfl
@[simp] theorem State.setW_ticks (s : State) (v : BitVec 5) : (s.setW v).ticks = s.ticks := rfl
@[simp] theorem State.setW_draws (s : State) (v : BitVec 5) : (s.setW v).draws = s.draws := rfl

/-! setDC -/

@[simp] theorem State.setDC_cfg (s : State) (v : Addr) : (s.setDC v).cfg = s.cfg := rfl
@[simp] theorem State.setDC_a (s : State) (v : Addr) : (s.setDC v).a = s.a := rfl
@[simp] theorem State.setDC_w (s : State) (v : Addr) : (s.setDC v).w = s.w := rfl
@[simp] theorem State.setDC_isar (s : State) (v : Addr) : (s.setDC v).isar = s.isar := rfl
@[simp] theorem State.setDC_pc0 (s : State) (v : Addr) : (s.setDC v).pc0 = s.pc0 := rfl
@[simp] theorem State.setDC_pc1 (s : State) (v : Addr) : (s.setDC v).pc1 = s.pc1 := rfl
@[simp] theorem State.setDC_dc0 (s : State) (v : Addr) : (s.setDC v).dc0 = v := rfl
@[simp] theorem State.setDC_dc1 (s : State) (v : Addr) : (s.setDC v).dc1 = s.dc1 := rfl
@[simp] theorem State.setDC_scratch (s : State) (v : Addr) : (s.setDC v).scratch = s.scratch := rfl
@[simp] theorem State.setDC_mem (s : State) (v : Addr) : (s.setDC v).mem = s.mem := rfl
@[simp] theorem State.setDC_banked (s : State) (v : Addr) : (s.setDC v).banked = s.banked := rfl
@[simp] theorem State.setDC_image (s : State) (v : Addr) : (s.setDC v).image = s.image := rfl
@[simp] theorem State.setDC_bank (s : State) (v : Addr) : (s.setDC v).bank = s.bank := rfl
@[simp] theorem State.setDC_latch (s : State) (v : Addr) : (s.setDC v).latch = s.latch := rfl
@[simp] theorem State.setDC_eeprom (s : State) (v : Addr) : (s.setDC v).eeprom = s.eeprom := rfl
@[simp] theorem State.setDC_video (s : State) (v : Addr) : (s.setDC v).video = s.video := rfl
@[simp] theorem State.setDC_tone (s : State) (v : Addr) : (s.setDC v).tone = s.tone := rfl
@[simp] theorem State.setDC_sched (s : State) (v : Addr) : (s.setDC v).sched = s.sched := rfl
@[simp] theorem State.setDC_hle (s : State) (v : Addr) : (s.setDC v).hle = s.hle := rfl
@[simp] theorem State.setDC_samples (s : State) (v : Addr) : (s.setDC v).samples = s.samples := rfl
@[simp] theorem State.setDC_frameOut (s : State) (v : Addr) : (s.setDC v).frameOut = s.frameOut := rfl
@[simp] theorem State.setDC_ticks (s : State) (v : Addr) : (s.setDC v).ticks = s.ticks := rfl
@[simp] theorem State.setDC_draws (s : State) (v : Addr) : (s.setDC v).draws = s.draws := rfl

/-! swapDC -/

@[simp] theorem State.swapDC_cfg (s : State) : (s.swapDC).cfg = s.cfg := rfl
@[simp] theorem State.swapDC_a (s : State) : (s.swapDC).a = s.a := rfl
@[simp] theorem State.swapDC_w (s : State) : (s.swapDC).w = s.w := rfl
@[simp] theorem State.swapDC_isar (s : State) : (s.swapDC).isar = s.isar := rfl
@[simp] theorem State.swapDC_pc0 (s : State) : (s.swapDC).pc0 = s.pc0 := rfl
@[simp] theorem State.swapDC_pc1 (s : State) : (s.swapDC).pc1 = s.pc1 := rfl
@[simp] theorem State.swapDC_dc0 (s : State) : (s.swapDC).dc0 = s.dc1 := rfl
@[simp] theorem State.swapDC_dc1 (s : State) : (s.swapDC).dc1 = s.dc0 := rfl
@[simp] theorem State.swapDC_scratch (s : State) : (s.swapDC).scratch = s.scratch := rfl
@[simp] theorem State.swapDC_mem (s : State) : (s.swapDC).mem = s.mem := rfl
@[simp] theorem State.swapDC_banked (s : State) : (s.swapDC).banked = s.banked := rfl
@[simp] theorem State.swapDC_image (s : State) : (s.swapDC).image = s.image := rfl
@[simp] theorem State.swapDC_bank (s : State) : (s.swapDC).bank = s.bank := rfl
@[simp] theorem State.swapDC_latch (s : State) : (s.swapDC).latch = s.latch := rfl
@[simp] theorem State.swapDC_eeprom (s : State) : (s.swapDC).eeprom = s.eeprom := rfl
@[simp] theorem State.swapDC_video (s : State) : (s.swapDC).video = s.video := rfl
@[simp] theorem State.swapDC_tone (s : State) : (s.swapDC).tone = s.tone := rfl
@[simp] theorem State.swapDC_sched (s : State) : (s.swapDC).sched = s.sched := rfl
@[simp] theorem State.swapDC_hle (s : State) : (s.swapDC).hle = s.hle := rfl
@[simp] theorem State.swapDC_samples (s : State) : (s.swapDC).samples = s.samples := rfl
@[simp] theorem State.swapDC_frameOut (s : State) : (s.swapDC).frameOut = s.frameOut := rfl
@[simp] theorem State.swapDC_ticks (s : State) : (s.swapDC).ticks = s.ticks := rfl
@[simp] theorem State.swapDC_draws (s : State) : (s.swapDC).draws = s.draws := rfl

/-! afterPortRead -/

@[simp] theorem State.afterPortRead_cfg (s : State) (p : PortNo) : (s.afterPortRead p).cfg = s.cfg := rfl
@[simp] theorem State.afterPortRead_a (s : State) (p : PortNo) : (s.afterPortRead p).a = s.a := rfl
@[simp] theorem State.afterPortRead_w (s : State) (p : PortNo) : (s.afterPortRead p).w = s.w := rfl
@[simp] theorem State.afterPortRead_isar (s : State) (p : PortNo) : (s.afterPortRead p).isar = s.isar := rfl
@[simp] theorem State.afterPortRead_pc0 (s : State) (p : PortNo) : (s.afterPortRead p).pc0 = s.pc0 := rfl
@[simp] theorem State.afterPortRead_pc1 (s : State) (p : PortNo) : (s.afterPortRead p).pc1 = s.pc1 := rfl
@[simp] theorem State.afterPortRead_dc0 (s : State) (p : PortNo) : (s.afterPortRead p).dc0 = s.dc0 := rfl
@[simp] theorem State.afterPortRead_dc1 (s : State) (p : PortNo) : (s.afterPortRead p).dc1 = s.dc1 := rfl
@[simp] theorem State.afterPortRead_scratch (s : State) (p : PortNo) : (s.afterPortRead p).scratch = s.scratch := rfl
@[simp] theorem State.afterPortRead_mem (s : State) (p : PortNo) : (s.afterPortRead p).mem = s.mem := rfl
@[simp] theorem State.afterPortRead_banked (s : State) (p : PortNo) : (s.afterPortRead p).banked = s.banked := rfl
@[simp] theorem State.afterPortRead_image (s : State) (p : PortNo) : (s.afterPortRead p).image = s.image := rfl
@[simp] theorem State.afterPortRead_bank (s : State) (p : PortNo) : (s.afterPortRead p).bank = s.bank := rfl
@[simp] theorem State.afterPortRead_latch (s : State) (p : PortNo) : (s.afterPortRead p).latch = s.latch := rfl
@[simp] theorem State.afterPortRead_eeprom (s : State) (p : PortNo) : (s.afterPortRead p).eeprom = s.eeprom := rfl
@[simp] theorem State.afterPortRead_video (s : State) (p : PortNo) : (s.afterPortRead p).video = s.video := rfl
@[simp] theorem State.afterPortRead_tone (s : State) (p : PortNo) : (s.afterPortRead p).tone = s.tone := rfl
@[simp] theorem State.afterPortRead_sched (s : State) (p : PortNo) : (s.afterPortRead p).sched = s.sched := rfl
@[simp] theorem State.afterPortRead_hle (s : State) (p : PortNo) : (s.afterPortRead p).hle = s.hle := rfl
@[simp] theorem State.afterPortRead_samples (s : State) (p : PortNo) : (s.afterPortRead p).samples = s.samples := rfl
@[simp] theorem State.afterPortRead_frameOut (s : State) (p : PortNo) :
    (s.afterPortRead p).frameOut = s.frameOut := rfl
@[simp] theorem State.afterPortRead_ticks (s : State) (p : PortNo) : (s.afterPortRead p).ticks = s.ticks := rfl
@[simp] theorem State.afterPortRead_draws (s : State) (p : PortNo) :
    (s.afterPortRead p).draws = if s.cfg.controllerPorts.contains p then s.draws + 1 else s.draws := rfl

/-! portWriteNotify -/

@[simp] theorem State.portWriteNotify_cfg (s : State) (p : PortNo) (v : Byte) :
    (s.portWriteNotify p v).cfg = s.cfg := rfl
@[simp] theorem State.portWriteNotify_a (s : State) (p : PortNo) (v : Byte) : (s.portWriteNotify p v).a = s.a := rfl
@[simp] theorem State.portWriteNotify_w (s : State) (p : PortNo) (v : Byte) : (s.portWriteNotify p v).w = s.w := rfl
@[simp] theorem State.portWriteNotify_isar (s : State) (p : PortNo) (v : Byte) :
    (s.portWriteNotify p v).isar = s.isar := rfl
@[simp] theorem State.portWriteNotify_pc0 (s : State) (p : PortNo) (v : Byte) :
    (s.portWriteNotify p v).pc0 = s.pc0 := rfl
@[simp] theorem State.portWriteNotify_pc1 (s : State) (p : PortNo) (v : Byte) :
    (s.portWriteNotify p v).pc1 = s.pc1 := rfl
@[simp] theorem State.portWriteNotify_dc0 (s : State) (p : PortNo) (v : Byte) :
    (s.portWriteNotify p v).dc0 = s.dc0 := rfl
@[simp] theorem State.portWriteNotify_dc1 (s : State) (p : PortNo) (v : Byte) :
    (s.portWriteNotify p v).dc1 = s.dc1 := rfl
@[simp] theorem State.portWriteNotify_scratch (s : State) (p : PortNo) (v : Byte) :
    (s.portWriteNotify p v).scratch = s.scratch := rfl
@[simp] theorem State.portWriteNotify_mem (s : State) (p : PortNo) (v : Byte) :
    (s.portWriteNotify p v).mem = s.mem := rfl
@[simp] theorem State.portWriteNotify_banked (s : State) (p : PortNo) (v : Byte) :
    (s.portWriteNotify p v).banked = s.banked := rfl
@[simp] theorem State.portWriteNotify_image (s : State) (p : PortNo) (v : Byte) :
    (s.portWriteNotify p v).image = s.image := rfl
@[simp] theorem State.portWriteNotify_bank (s : State) (p : PortNo) (v : Byte) :
    (s.portWriteNotify p v).bank = s.bank := rfl
@[simp] theorem State.portWriteNotify_latch (s : State) (p : PortNo) (v : Byte) :
    (s.portWriteNotify p v).latch = readBack s.cfg p (eeReceive s.cfg p v s.eeprom).state (setLatch s.latch p v) := rfl
@[simp] theorem State.portWriteNotify_eeprom (s : State) (p : PortNo) (v : Byte) :
    (s.portWriteNotify p v).eeprom = eeReceive s.cfg p v s.eeprom := rfl
@[simp] theorem State.portWriteNotify_video (s : State) (p : PortNo) (v : Byte) :
    (s.portWriteNotify p v).video = videoReceive s.cfg p v s.video := rfl
@[simp] theorem State.portWriteNotify_tone (s : State) (p : PortNo) (v : Byte) :
    (s.portWriteNotify p v).tone = toneReceive s.cfg p v s.tone := rfl
@[simp] theorem State.portWriteNotify_sched (s : State) (p : PortNo) (v : Byte) :
    (s.portWriteNotify p v).sched = s.sched := rfl
@[simp] theorem State.portWriteNotify_hle (s : State) (p : PortNo) (v : Byte) :
    (s.portWriteNotify p v).hle = s.hle := rfl
@[simp] theorem State.portWriteNotify_samples (s : State) (p : PortNo) (v : Byte) :
    (s.portWriteNotify p v).samples = s.samples := rfl
@[simp] theorem State.portWriteNotify_frameOut (s : State) (p : PortNo) (v : Byte) :
    (s.portWriteNotify p v).frameOut = s.frameOut := rfl
@[simp] theorem State.portWriteNotify_ticks (s : State) (p : PortNo) (v : Byte) :
    (s.portWriteNotify p v).ticks = s.ticks := rfl
@[simp] theorem State.portWriteNotify_draws (s : State) (p : PortNo) (v : Byte) :
    (s.portWriteNotify p v).draws = s.draws := rfl

/-! input -/

@[simp] theorem State.input_cfg (s : State) (p : PortNo) : (s.input p).cfg = s.cfg := rfl
@[simp] theorem State.input_a (s : State) (p : PortNo) : (s.input p).a = s.portRead p := rfl
@[simp] theorem State.input_w (s : State) (p : PortNo) : (s.input p).w = setFlags (logic8 (s.portRead p)).2 s.w := rfl
@[simp] theorem State.input_isar (s : State) (p : PortNo) : (s.input p).isar = s.isar := rfl
@[simp] theorem State.input_pc0 (s : State) (p : PortNo) : (s.input p).pc0 = s.pc0 := rfl
@[simp] theorem State.input_pc1 (s : State) (p : PortNo) : (s.input p).pc1 = s.pc1 := rfl
@[simp] theorem State.input_dc0 (s : State) (p : PortNo) : (s.input p).dc0 = s.dc0 := rfl
@[simp] theorem State.input_dc1 (s : State) (p : PortNo) : (s.input p).dc1 = s.dc1 := rfl
@[simp] theorem State.input_scratch (s : State) (p : PortNo) : (s.input p).scratch = s.scratch := rfl
@[simp] theorem State.input_mem (s : State) (p : PortNo) : (s.input p).mem = s.mem := rfl
@[simp] theorem State.input_banked (s : State) (p : PortNo) : (s.input p).banked = s.banked := rfl
@[simp] theorem State.input_image (s : State) (p : PortNo) : (s.input p).image = s.image := rfl
@[simp] theorem State.input_bank (s : State) (p : PortNo) : (s.input p).bank = s.bank := rfl
@[simp] theorem State.input_latch (s : State) (p : PortNo) : (s.input p).latch = s.latch := rfl
@[simp] theorem State.input_eeprom (s : State) (p : PortNo) : (s.input p).eeprom = s.eeprom := rfl
@[simp] theorem State.input_video (s : State) (p : PortNo) : (s.input p).video = s.video := rfl
@[simp] theorem State.input_tone (s : State) (p : PortNo) : (s.input p).tone = s.tone := rfl
@[simp] theorem State.input_sched (s : State) (p : PortNo) : (s.input p).sched = s.sched := rfl
@[simp] theorem State.input_hle (s : State) (p : PortNo) : (s.input p).hle = s.hle := rfl
@[simp] theorem State.input_samples (s : State) (p : PortNo) : (s.input p).samples = s.samples := rfl
@[simp] theorem State.input_frameOut (s : State) (p : PortNo) : (s.input p).frameOut = s.frameOut := rfl
@[simp] theorem State.input_ticks (s : State) (p : PortNo) : (s.input p).ticks = s.ticks := rfl
@[simp] theorem State.input_draws (s : State) (p : PortNo) :
    (s.input p).draws = if s.cfg.controllerPorts.contains p then s.draws + 1 else s.draws := rfl

end Sys2Proof.Machine
end

