-- ==== Sys2Proof/Laws/Ops.lean ====
section
/-! SUPPORT. What the shared operations over registers and memory do, said once: the scratchpad and its pairs, memory
through the bank window, the scratchpad operand forms, and fetch against decode. -/

namespace Sys2Proof.Machine

/-! Scratchpad -/

/-- A scratchpad read looks at the scratchpad only. -/
theorem State.sp_congr {s t : State} (h : s.scratch = t.scratch) (k : SpIndex) : s.sp k = t.sp k := by
  unfold State.sp; simp only [h]

/-- A scratchpad byte reads back, and a write leaves the other 63. -/
@[simp] theorem State.sp_setSp (s : State) (k j : SpIndex) (v : Byte) :
    (s.setSp k v).sp j = if j = k then v else s.sp j := by
  simp only [State.sp, State.setSp, Vector.getElem_set, BitVec.toNat_inj, eq_comm]

@[simp] theorem State.sp_setPairH (s : State) (v : Addr) (j : SpIndex) :
    (s.setPairH v).sp j = if j = 11 then lowByte v else if j = 10 then highByte v else s.sp j := by
  simp [State.setPairH, spHU, spHL]

@[simp] theorem State.sp_setPairK (s : State) (v : Addr) (j : SpIndex) :
    (s.setPairK v).sp j = if j = 13 then lowByte v else if j = 12 then highByte v else s.sp j := by
  simp [State.setPairK, spKU, spKL]

@[simp] theorem State.sp_setPairQ (s : State) (v : Addr) (j : SpIndex) :
    (s.setPairQ v).sp j = if j = 15 then lowByte v else if j = 14 then highByte v else s.sp j := by
  simp [State.setPairQ, spQU, spQL]

theorem joinBytes_toNat (hi lo : Byte) : (joinBytes hi lo).toNat = hi.toNat * 256 + lo.toNat := by
  rw [joinBytes, BitVec.toNat_append, ← Nat.shiftLeft_add_eq_or_of_lt lo.isLt, Nat.shiftLeft_eq]

theorem highByte_eq_div (v : Addr) : highByte v = BitVec.ofNat 8 (v.toNat / 256) := by
  apply BitVec.eq_of_toNat_eq
  simp [highByte, Nat.shiftRight_eq_div_pow]

theorem lowByte_eq_ofNat (v : Addr) : lowByte v = BitVec.ofNat 8 v.toNat := by
  apply BitVec.eq_of_toNat_eq
  simp [lowByte]

/-- A pair reads back as it was written. -/
theorem joinBytes_high_low (v : Addr) : joinBytes (highByte v) (lowByte v) = v := by
  apply BitVec.eq_of_toNat_eq
  have := v.isLt
  rw [joinBytes_toNat, highByte_eq_div, lowByte_eq_ofNat, BitVec.toNat_ofNat, BitVec.toNat_ofNat]
  omega

theorem highByte_joinBytes (hi lo : Byte) : highByte (joinBytes hi lo) = hi := by
  apply BitVec.eq_of_toNat_eq
  have := hi.isLt
  have := lo.isLt
  rw [highByte_eq_div, BitVec.toNat_ofNat, joinBytes_toNat]
  omega

theorem lowByte_joinBytes (hi lo : Byte) : lowByte (joinBytes hi lo) = lo := by
  apply BitVec.eq_of_toNat_eq
  have := lo.isLt
  rw [lowByte_eq_ofNat, BitVec.toNat_ofNat, joinBytes_toNat]
  omega

/-! The accumulator and the flags -/

/-- A and W after an add. -/
theorem State.setAcc_add8 (s : State) (a b : Byte) :
    s.setAcc (add8 a b) = { s with a := a + b, w := addW s.flagICB a b } := by
  unfold State.setAcc State.flagICB
  rw [← setFlags_add8, add8_fst]

/-- A and W after a decimal add. -/
theorem State.setAcc_decAdd8 (s : State) (a b : Byte) :
    s.setAcc (decAdd8 a b) = { s with a := decDigits a b, w := addW s.flagICB a b } := by
  unfold State.setAcc State.flagICB
  rw [← setFlags_add8, ← decAdd8_fst, decAdd8_snd]

/-- A and W after a logical result. -/
theorem State.setAcc_logic8 (s : State) (r : Byte) :
    s.setAcc (logic8 r) = { s with a := r, w := logicW s.flagICB r } := by
  unfold State.setAcc State.flagICB
  rw [← setFlags_logic8]
  rfl

/-- W after a comparison. -/
theorem State.withFlags_sub8 (s : State) (a b : Byte) :
    s.withFlags (sub8 a b).2 = { s with w := subW s.flagICB a b } := by
  unfold State.withFlags State.flagICB
  rw [← setFlags_sub8]

/-! Memory -/

/-- A memory read looks at the bank, the image, the stored bytes and the parameters only. -/
theorem State.memRead_congr {s t : State} (hc : s.cfg = t.cfg) (hb : s.banked = t.banked) (hi : s.image = t.image)
    (hk : s.bank = t.bank) (hm : s.mem = t.mem) (addr : Addr) : s.memRead addr = t.memRead addr := by
  cases s
  cases t
  subst hc hb hi hk hm
  rfl

/-- Outside the bank window, or in a machine that is not banked, a read is a read of MEM. -/
theorem State.memRead_outside (s : State) (addr : Addr) (h : s.inBankWindow addr = false) :
    s.memRead addr = Cells.read s.mem addr.toNat := by
  simp [State.memRead, h]

/-- What MEM holds after a write: RAM takes the byte, the rest stays. -/
theorem State.read_memWrite (s : State) (addr : Addr) (v : Byte) (a : Nat) :
    Cells.read (s.memWrite addr v).mem a =
      if a = addr.toNat ∧ s.cfg.ramStart ≤ a then v else Cells.read s.mem a := by
  rw [State.memWrite_mem]
  split
  · rw [Cells.read_write]
    by_cases h : a = addr.toNat <;> simp [*]
  · by_cases h : a = addr.toNat <;> simp [*]

/-- A write that is no bank select, read back through MemRead: the byte stored in RAM that the window does not
cover, and every other byte as before. -/
theorem State.memRead_memWrite (s : State) (addr b : Addr) (v : Byte)
    (h : (s.banked && addr == s.cfg.bankSelectAddr) = false) :
    (s.memWrite addr v).memRead b =
      if b = addr ∧ s.cfg.ramStart ≤ addr.toNat ∧ s.inBankWindow addr = false then v else s.memRead b := by
  have hw : ∀ x, (s.memWrite addr v).inBankWindow x = s.inBankWindow x := fun _ => rfl
  have ho : ∀ x, (s.memWrite addr v).imageOffset x = s.imageOffset x := fun x => by
    simp [State.imageOffset, State.bankIndex, h]
  rw [State.memRead, hw, ho, State.read_memWrite, State.memRead]
  by_cases hb : b = addr
  · subst hb
    cases s.inBankWindow b <;> simp
  · have : b.toNat ≠ addr.toNat := fun h => hb (BitVec.eq_of_toNat_eq h)
    simp [hb, this]

/-- A write below the end of the address space keeps the memory's canonical form. -/
theorem State.memWrite_wf (s : State) (addr : Addr) (v : Byte) (h : Memory.wf s.mem = true) :
    Memory.wf (s.memWrite addr v).mem = true := by
  rw [State.memWrite_mem]
  split
  · exact Cells.wf_write _ _ addr.isLt h
  · exact h

/-! Scratchpad operand forms -/

theorem spPost_eq (o : SpOperand) (s : State) : spPost o s = { s with isar := (spPost o s).isar } := by
  cases o <;> rfl

/-- The post-increment of ISAR is that of its lower half alone. -/
theorem isarInc_eq (i : SpIndex) :
    isarInc i = (i.extractLsb' 3 3 ++ (i.extractLsb' 0 3 + 1) : BitVec (3 + 3)) := by
  revert i; decide

/-- The post-decrement of ISAR is that of its lower half alone. -/
theorem isarDec_eq (i : SpIndex) :
    isarDec i = (i.extractLsb' 3 3 ++ (i.extractLsb' 0 3 - 1) : BitVec (3 + 3)) := by
  revert i; decide

/-- No operand form touches ISARU. -/
theorem spPost_isarU (o : SpOperand) (s : State) : (spPost o s).isarU = s.isarU := by
  have h : ∀ i : SpIndex, (isarInc i).extractLsb' 3 3 = i.extractLsb' 3 3
      ∧ (isarDec i).extractLsb' 3 3 = i.extractLsb' 3 3 := by decide
  cases o <;> simp [spPost, State.isarU, h]

/-- LR A,r: everything it changes. -/
theorem State.loadFromScratch_eq (s : State) (o : SpOperand) :
    s.loadFromScratch o = { s with a := s.sp (spAddr o s), isar := (spPost o s).isar } := by
  cases o <;> rfl

/-- LR r,A: everything it changes. -/
theorem State.storeToScratch_eq (s : State) (o : SpOperand) :
    s.storeToScratch o = { s.setSp (spAddr o s) s.a with isar := (spPost o s).isar } := by
  cases o <;> rfl

/-- DS: everything it changes. -/
theorem State.decScratch_eq (s : State) (o : SpOperand) :
    s.decScratch o = { s.setSp (spAddr o s) (s.sp (spAddr o s) + 0xFF#8) with
      w := addW s.flagICB (s.sp (spAddr o s)) 0xFF#8, isar := (spPost o s).isar } := by
  have h := setFlags_add8 (s.sp (spAddr o s)) 0xFF#8 s.w
  have h1 := add8_fst (s.sp (spAddr o s)) 0xFF#8
  rw [← h1, State.flagICB, ← h]
  cases o <;> rfl

/-- AS, ASD, XS and NS: everything they change. -/
theorem State.accScratch_eq (s : State) (o : SpOperand) (f : Byte → Byte → Byte × FlagSet) :
    s.accScratch o f = { s with
      a := (f s.a (s.sp (spAddr o s))).1, w := setFlags (f s.a (s.sp (spAddr o s))).2 s.w
      isar := (spPost o s).isar } := by
  cases o <;> rfl

/-! Fetch -/

/-- A fetch reads the byte at PC0 and advances PC0. -/
theorem fetch8_eq (s : State) : fetch8 s = (s.memRead s.pc0, { s with pc0 := s.pc0 + 1 }) := rfl

/-- Fetching an instruction reads the bytes at PC0 and moves PC0 only. -/
theorem fetchInstr_eq (s : State) :
    fetchInstr s =
      (decodeOpcode (s.memRead s.pc0)
          (if operandCount (s.memRead s.pc0) = 0 then 0 else s.memRead (s.pc0 + 1))
          (if operandCount (s.memRead s.pc0) ≤ 1 then 0 else s.memRead (s.pc0 + 2)),
        { s with pc0 := s.pc0 + 1 + BitVec.ofNat 16 (operandCount (s.memRead s.pc0)) }) := by
  have h2 : operandCount (s.memRead s.pc0) = 0 ∨ operandCount (s.memRead s.pc0) = 1
      ∨ operandCount (s.memRead s.pc0) = 2 := by
    unfold operandCount; split_ifs <;> simp
  have h12 : s.pc0 + 1 + 1 = s.pc0 + 2 := by rw [BitVec.add_assoc]; rfl
  rcases h2 with h | h | h
  · simp [fetchInstr, fetch8_eq, h]
  · simp only [fetchInstr, fetch8_eq, h]
    rfl
  · simp only [fetchInstr, fetch8_eq, h]
    refine Prod.ext ?_ ?_
    · show decodeOpcode _ (s.memRead (s.pc0 + 1)) (s.memRead (s.pc0 + 1 + 1)) = _
      rw [h12]; rfl
    · show ({ s with pc0 := s.pc0 + 1 + 1 + 1 } : State) = { s with pc0 := s.pc0 + 1 + BitVec.ofNat 16 2 }
      rw [BitVec.add_assoc (s.pc0 + 1)]; rfl

end Sys2Proof.Machine
end

