-- ==== Sys2Proof/Laws/Ports.lean ====
section
/-! SUPPORT. What the port bus and the three peripherals do, said once. -/

namespace Sys2Proof.Machine

/-- A latch reads back, and a write leaves the other 63. -/
@[simp] theorem setLatch_getElem (l : Vector Byte 64) (p q : PortNo) (v : Byte) :
    (setLatch l p v)[q.toNat]'q.isLt = if q = p then v else l[q.toNat]'q.isLt := by
  simp only [setLatch, Vector.getElem_set, BitVec.toNat_inj, eq_comm]

/-- A latch read looks at the latches only. -/
theorem State.latchAt_congr {s t : State} (h : s.latch = t.latch) (p : PortNo) : s.latchAt p = t.latchAt p := by
  unfold State.latchAt; simp only [h]

/-- The latches after a poll: EE_STATE on the two read-back latches. -/
theorem readBack_getElem (c : Config) (p q : PortNo) (word : BitVec 16) (l : Vector Byte 64) :
    (readBack c p word l)[q.toNat]'q.isLt =
      if eeAddressed c p = true ∧ q = c.eeRbHi then highByte word
      else if eeAddressed c p = true ∧ q = c.eeRbLo then lowByte word
      else l[q.toNat]'q.isLt := by
  unfold readBack
  by_cases h : eeAddressed c p = true
  · simp only [h, if_true, true_and, setLatch_getElem]
  · simp [h]

/-- The latches after a notify write. -/
theorem State.latchAt_portWriteNotify (s : State) (p q : PortNo) (v : Byte) :
    (s.portWriteNotify p v).latchAt q =
      if eeAddressed s.cfg p = true ∧ q = s.cfg.eeRbHi then highByte (eeReceive s.cfg p v s.eeprom).state
      else if eeAddressed s.cfg p = true ∧ q = s.cfg.eeRbLo then lowByte (eeReceive s.cfg p v s.eeprom).state
      else if q = p then v else s.latchAt q := by
  unfold State.latchAt State.portWriteNotify
  simp only [readBack_getElem, setLatch_getElem]

/-- A port that carries no control byte leaves the EEPROM. -/
theorem eeReceive_of_not_addressed (c : Config) (p : PortNo) (v : Byte) (e : Eeprom) (h : eeAddressed c p = false) :
    eeReceive c p v e = e := by
  simp [eeReceive, h]

/-- A poll keeps the EEPROM's canonical form. -/
theorem eeReceive_wf (c : Config) (p : PortNo) (v : Byte) (e : Eeprom) (h : Cells.wf 1024 e.mem = true) :
    Cells.wf 1024 (eeReceive c p v e).mem = true := by
  unfold eeReceive
  split
  · unfold eePoll
    simp only
    split
    · exact Cells.wf_write _ _ (BitVec.isLt _) h
    · exact h
  · exact h

/-- The bits of EE_STATE after a read poll has put the cell into bit EE_DOUT_BIT. -/
theorem eeSurface_getLsbD (c : Config) (b : BitVec 1) (word : BitVec 16) (j : Nat) (hj : j < 16) :
    (eeSurface c b word).getLsbD j = if j = c.eeDoutBit.toNat then b.getLsbD 0 else word.getLsbD j := by
  have hd := c.eeDoutBit.isLt
  unfold eeSurface
  by_cases h : j = c.eeDoutBit.toNat
  · subst h
    simp [hd]
  · have h1 : (1#16 <<< c.eeDoutBit.toNat).getLsbD j = false := by
      rw [← BitVec.twoPow_eq, BitVec.getLsbD_twoPow]
      simp [Ne.symm h]
    have h2 : (b.zeroExtend 16 <<< c.eeDoutBit.toNat).getLsbD j = false := by
      by_cases hlt : j < c.eeDoutBit.toNat
      · simp [BitVec.getLsbD_shiftLeft, hlt]
      · simp only [BitVec.getLsbD_shiftLeft, BitVec.getLsbD_setWidth]
        rw [BitVec.getLsbD_of_ge b _ (by omega)]
        simp
    simp only [BitVec.getLsbD_or, BitVec.getLsbD_and, BitVec.getLsbD_not, h1, h2, h, if_false]
    simp [hj]

theorem fbIndex_lt (x : BitVec 7) (y : BitVec 6) : fbIndex x y < 8192 := by
  have := x.isLt
  have := y.isLt
  unfold fbIndex
  omega

/-- A strobe keeps the framebuffer's canonical form. -/
theorem videoReceive_wf (c : Config) (p : PortNo) (v : Byte) (d : Video) (h : Cells.wf 8192 d.fb = true) :
    Cells.wf 8192 (videoReceive c p v d).fb = true := by
  have hs : ∀ d : Video, Cells.wf 8192 d.fb = true → Cells.wf 8192 (videoStrobe c v d).fb = true := by
    intro d h
    unfold videoStrobe
    simp only
    split
    · exact Cells.wf_write _ _ (fbIndex_lt _ _) h
    · exact h
  unfold videoReceive
  simp only
  split
  · exact hs _ h
  · exact h

/-- What a notify write does to the tone generator: nothing, or a new tone from the start. -/
theorem toneReceive_cases (c : Config) (p : PortNo) (v : Byte) (t : Tone) :
    toneReceive c p v t = t
      ∨ toneReceive c p v t = { t with select := v.extractLsb' 6 2, amp := c.ampFull, phase := 0 } := by
  unfold toneReceive
  simp only
  split
  · exact .inr rfl
  · exact .inl rfl

@[simp] theorem toneTimes_zero_left (b : ToneNum) : toneTimes 0 b = 0 := if_pos (.inl rfl)

@[simp] theorem toneTimes_zero_right (a : ToneNum) : toneTimes a 0 = 0 := if_pos (.inr rfl)

@[simp] theorem toneOut_zero : toneOut 0 = 0 := if_pos rfl

/-- An emission changes AMP and PHASE only. -/
theorem toneEmits_frame (c : Config) (n : Nat) : ∀ t : Tone,
    (toneEmits c n t).1.select = t.select ∧ (toneEmits c n t).1.tacc = t.tacc := by
  induction n with
  | zero => intro t; exact ⟨rfl, rfl⟩
  | succ n ih => intro t; exact ih (toneAfterEmit c t)

/-- As many samples as emissions. -/
theorem toneEmits_length (c : Config) (n : Nat) : ∀ t : Tone, (toneEmits c n t).2.length = n := by
  induction n with
  | zero => intro t; rfl
  | succ n ih => intro t; exact congrArg (· + 1) (ih (toneAfterEmit c t))

/-- PHASE stays below TABLE_LEN. -/
theorem toneEmits_phase (c : Config) (n : Nat) : ∀ t : Tone,
    t.phase < c.tableLen → (toneEmits c n t).1.phase < c.tableLen := by
  induction n with
  | zero => intro t h; exact h
  | succ n ih => intro t h; exact ih _ (Nat.mod_lt _ (Nat.zero_lt_of_lt h))

/-- No emission looks at TACC or at the framebuffer: the samples depend on TONE, AMP and PHASE. -/
theorem toneEmits_tacc (c : Config) (n : Nat) : ∀ (t : Tone) (x : Nat),
    toneEmits c n { t with tacc := x } = ({ (toneEmits c n t).1 with tacc := x }, (toneEmits c n t).2) := by
  induction n with
  | zero => intro t x; rfl
  | succ n ih =>
    intro t x
    have h := ih (toneAfterEmit c t) x
    have ha : toneAfterEmit c { t with tacc := x } = { toneAfterEmit c t with tacc := x } := rfl
    simp only [toneEmits, ha, h]
    rfl

end Sys2Proof.Machine
end

