-- ==== Sys2Proof/Laws/Exec.lean ====
section
/-! SUPPORT. What any instruction can do, said once: the fields no instruction touches, what it charges, and where
it stops. -/

namespace Sys2Proof.Machine

@[simp] theorem done_eq (op : Byte) (s t : State) : done op s = .next t ↔ s.charge op false = t := by
  simp [done]

/-- The fields that no instruction changes. -/
def SameLaunch (s t : State) : Prop :=
  t.cfg = s.cfg ∧ t.banked = s.banked ∧ t.image = s.image ∧ t.hle = s.hle ∧ t.sched = s.sched
    ∧ t.samples = s.samples ∧ t.frameOut = s.frameOut

/-- What an instruction can answer: a state of the same launch, or the port fault. -/
def Answers (s : State) (r : Result) : Prop :=
  (∃ t, r = .next t ∧ SameLaunch s t) ∨ ∃ p : Byte, 64 ≤ p.toNat ∧ r = .fault (.portOutOfRange p s.pc0)

theorem Answers.done {s t : State} (op : Byte) (h : SameLaunch s t) : Answers s (done op t) := .inl ⟨_, rfl, h⟩

theorem Answers.form {s t : State} (op : Byte) (o : SpOperand) (h : SameLaunch s t) :
    Answers s (Machine.done op (spPost o t)) := by
  cases o <;> exact .inl ⟨_, rfl, h⟩

/-- IN of a port that has a latch. -/
theorem execInAa_port (p : Byte) (s : State) (h : p.toNat < 64) :
    execInAa p s = .next ((s.input (p.extractLsb' 0 6)).charge 0x26#8 false) := by
  unfold execInAa done; rw [if_pos h]

/-- IN of a port number without a latch. -/
theorem execInAa_fault (p : Byte) (s : State) (h : ¬ p.toNat < 64) :
    execInAa p s = .fault (.portOutOfRange p s.pc0) := by
  unfold execInAa raisePortOutOfRange; rw [if_neg h]

/-- OUT to a port that has a latch. -/
theorem execOutAa_port (p : Byte) (s : State) (h : p.toNat < 64) :
    execOutAa p s = .next ((s.portWriteNotify (p.extractLsb' 0 6) s.a).charge 0x27#8 false) := by
  unfold execOutAa done; rw [if_pos h]

/-- OUT to a port number without a latch. -/
theorem execOutAa_fault (p : Byte) (s : State) (h : ¬ p.toNat < 64) :
    execOutAa p s = .fault (.portOutOfRange p s.pc0) := by
  unfold execOutAa raisePortOutOfRange; rw [if_neg h]

/-- Every instruction goes on with the same launch, or stops on a port number of 64 or more. -/
theorem exec_answers (i : Instr) (s : State) : Answers s (exec i s) := by
  cases i <;> simp only [exec]
  case inAa p =>
    by_cases h : p.toNat < 64
    · rw [execInAa_port p s h]
      exact .inl ⟨_, rfl, by simp [SameLaunch]⟩
    · rw [execInAa_fault p s h]
      exact .inr ⟨p, by omega, rfl⟩
  case outAa p =>
    by_cases h : p.toNat < 64
    · rw [execOutAa_port p s h]
      exact .inl ⟨_, rfl, by simp [SameLaunch]⟩
    · rw [execOutAa_fault p s h]
      exact .inr ⟨p, by omega, rfl⟩
  case dsLow | dsHigh | dsS | dsI | dsD | lrALow | lrAHigh | lrAS | lrAI | lrAD | lrLowA | lrHighA | lrSA | lrIA
      | lrDA | asLow | asHigh | asS | asI | asD | asdLow | asdHigh | asdS | asdI | asdD | xsLow | xsHigh | xsS
      | xsI | xsD | nsLow | nsHigh | nsS | nsI | nsD => exact .form _ _ ⟨rfl, rfl, rfl, rfl, rfl, rfl, rfl⟩
  all_goals exact .inl ⟨_, rfl, rfl, rfl, rfl, rfl, rfl, rfl, rfl⟩

/-- A next state is one of the same launch. -/
theorem exec_sameLaunch {i : Instr} {s t : State} (h : exec i s = .next t) : SameLaunch s t := by
  rcases exec_answers i s with ⟨v, hv, k⟩ | ⟨_, _, hv⟩ <;> rw [hv] at h
  · injection h with h
    exact h ▸ k
  · cases h

/-- A fetch stays in the launch. -/
theorem fetchInstr_sameLaunch (s : State) : SameLaunch s (fetchInstr s).2 := by
  rw [fetchInstr_eq]
  exact ⟨rfl, rfl, rfl, rfl, rfl, rfl, rfl⟩

theorem done_ticks {op : Byte} {s u t : State} (h : done op u = .next t) (hc : u.cfg = s.cfg) :
    ∃ op taken, t.ticks = cost s.cfg op taken := by
  injection h with h
  exact ⟨op, false, by rw [← h, State.charge_ticks, hc]⟩

theorem branch_ticks {op n : Byte} {taken : Bool} {s t : State} (h : Host.Outcome.next (s.branch op n taken) =
    (.next t : Result)) : ∃ op taken, t.ticks = cost s.cfg op taken := by
  injection h with h
  exact ⟨op, taken, by rw [← h, State.branch_ticks]⟩

/-- What an instruction charges: an entry of the cost tables, or UNDEF_TICKS. -/
theorem exec_ticks {i : Instr} {s t : State} (h : exec i s = .next t) :
    (∃ op taken, t.ticks = cost s.cfg op taken) ∨ t.ticks = s.cfg.undefTicks := by
  have form : ∀ (o : SpOperand) (u : State), (spPost o u).cfg = u.cfg := by intro o u; cases o <;> rfl
  cases i <;> simp only [exec] at h
  case inAa p =>
    by_cases hp : p.toNat < 64
    · exact .inl (done_ticks ((execInAa_port p s hp).symm.trans h) rfl)
    · rw [execInAa_fault p s hp] at h
      cases h
  case outAa p =>
    by_cases hp : p.toNat < 64
    · exact .inl (done_ticks ((execOutAa_port p s hp).symm.trans h) rfl)
    · rw [execOutAa_fault p s hp] at h
      cases h
  case bt | bf | br7 => exact .inl (branch_ticks h)
  all_goals first
    | exact .inl (done_ticks h rfl)
    | exact .inl (done_ticks h (form _ _))
    | (cases h; exact .inr rfl)

end Sys2Proof.Machine
end

