-- ==== Sys2Proof/Laws/Loader.lean ====
section
/-! SUPPORT. The memory's canonical form, through every operation that writes memory from outside a step. -/

namespace Sys2Proof.Machine

theorem reset_memory_wf : Memory.wf State.reset.mem = true := rfl

/-- A load changes MEM only. -/
theorem State.load_eq (buf : List Byte) : ∀ (s : State) (base : Nat),
    s.load base buf = { s with mem := (s.load base buf).mem } := by
  induction buf with
  | nil => intro s base; rfl
  | cons v buf ih =>
    intro s base
    unfold State.load
    rw [ih]

/-- A load keeps the canonical form. -/
theorem State.load_wf (buf : List Byte) : ∀ (s : State) (base : Nat), Memory.wf s.mem = true →
    Memory.wf (s.load base buf).mem = true := by
  induction buf with
  | nil => intro s base h; exact h
  | cons v buf ih =>
    intro s base h
    refine ih _ _ ?_
    show Memory.wf (if base < 0x10000 then Cells.write s.mem base v else s.mem) = true
    split
    · exact Cells.wf_write _ _ ‹_› h
    · exact h

/-- A machine reset keeps the canonical form. -/
theorem State.machineReset_wf (s : State) (h : Memory.wf s.mem = true) : Memory.wf s.machineReset.mem = true :=
  Cells.wf_below _ h

/-- Placing a byte keeps the canonical form. -/
theorem State.placeByte_wf (s : State) (addr : Addr) (v : Byte) (h : Memory.wf s.mem = true) :
    Memory.wf (s.placeByte addr v).mem = true := by
  unfold State.placeByte
  split
  · exact h
  · exact Cells.wf_write _ _ addr.isLt h

/-- Placing an instruction for the next fetch keeps the canonical form. -/
theorem State.withFetchWord_wf (s : State) (nbits w : Nat) (h : Memory.wf s.mem = true) :
    Memory.wf (s.withFetchWord nbits w).mem = true :=
  State.placeByte_wf _ _ _ (State.placeByte_wf _ _ _ (State.placeByte_wf _ _ _ h))

end Sys2Proof.Machine
end

