-- ==== Sys2Proof/Laws/Operands.lean ====
section
/-! SUPPORT. The scratchpad instructions by their field's number: the five rows of each as one. -/

namespace Sys2Proof.Machine

/-- The rows that a field value 0..14 falls into. -/
theorem field_cases (r : BitVec 4) (h : r.toNat ≤ 14) :
    r.toNat ≤ 7 ∨ (¬ r.toNat ≤ 7 ∧ r.toNat ≤ 11) ∨ r = 12 ∨ r = 13 ∨ r = 14 := by
  revert h; revert r; decide
/-- The operand form that a field value 0..14 names. -/
def spForm (r : BitVec 4) : SpOperand :=
  if r.toNat ≤ 11 then .direct r else if r = 12 then .still else if r = 13 then .postInc else .postDec

/-- The form of a field value reads and writes the byte that the field names. -/
theorem spForm_index (r : BitVec 4) (s : State) (h : r.toNat ≤ 14) :
    spAddr (spForm r) s = fieldIndex r s.isar := by
  rcases field_cases r h with h | ⟨h1, h⟩ | rfl | rfl | rfl
  · simp [spForm, fieldIndex, spAddr, show r.toNat ≤ 11 by omega]
  · simp [spForm, fieldIndex, spAddr, h]
  all_goals rfl
/-- The form of a field value leaves ISAR as the field says. -/
theorem spForm_isar (r : BitVec 4) (s : State) (h : r.toNat ≤ 14) :
    (spPost (spForm r) s).isar = fieldIsar r s.isar := by
  rcases field_cases r h with h | ⟨h1, h⟩ | rfl | rfl | rfl
  · simp only [spForm, fieldIsar, spPost, show r.toNat ≤ 11 by omega, if_true]
    rw [if_neg (by omega), if_neg (by omega)]
  · simp only [spForm, fieldIsar, spPost, show r.toNat ≤ 11 by omega, if_true]
    rw [if_neg (by omega), if_neg (by omega)]
  · rfl
  · exact isarInc_eq _
  · exact isarDec_eq _

/-- DS by the field's number, all five rows. -/
theorem exec_ds (r : BitVec 4) (s : State) (h : r.toNat ≤ 14) :
    exec (.ds r) s = done (0x30#8 ||| r.zeroExtend 8) (s.decScratch (spForm r)) := by
  rcases field_cases r h with h | ⟨h1, h⟩ | rfl | rfl | rfl
  · simp [Instr.ds, scratchRow, h, spForm, show r.toNat ≤ 11 by omega, exec, execDsLow]
  · simp [Instr.ds, scratchRow, h, h1, spForm, exec, execDsHigh]
  all_goals rfl

/-- LR A,r by the field's number, all five rows. -/
theorem exec_lrA (r : BitVec 4) (s : State) (h : r.toNat ≤ 14) :
    exec (.lrA r) s = done (0x40#8 ||| r.zeroExtend 8) (s.loadFromScratch (spForm r)) := by
  rcases field_cases r h with h | ⟨h1, h⟩ | rfl | rfl | rfl
  · simp [Instr.lrA, scratchRow, h, spForm, show r.toNat ≤ 11 by omega, exec, execLrALow]
  · simp [Instr.lrA, scratchRow, h, h1, spForm, exec, execLrAHigh]
  all_goals rfl

/-- LR r,A by the field's number, all five rows. -/
theorem exec_lrTo (r : BitVec 4) (s : State) (h : r.toNat ≤ 14) :
    exec (.lrTo r) s = done (0x50#8 ||| r.zeroExtend 8) (s.storeToScratch (spForm r)) := by
  rcases field_cases r h with h | ⟨h1, h⟩ | rfl | rfl | rfl
  · simp [Instr.lrTo, scratchRow, h, spForm, show r.toNat ≤ 11 by omega, exec, execLrLowA]
  · simp [Instr.lrTo, scratchRow, h, h1, spForm, exec, execLrHighA]
  all_goals rfl

/-- AS by the field's number, all five rows. -/
theorem exec_as (r : BitVec 4) (s : State) (h : r.toNat ≤ 14) :
    exec (.addScratch r) s = done (0xC0#8 ||| r.zeroExtend 8) (s.addScratch (spForm r)) := by
  rcases field_cases r h with h | ⟨h1, h⟩ | rfl | rfl | rfl
  · simp [Instr.addScratch, scratchRow, h, spForm, show r.toNat ≤ 11 by omega, exec, execAsLow]
  · simp [Instr.addScratch, scratchRow, h, h1, spForm, exec, execAsHigh]
  all_goals rfl

/-- ASD by the field's number, all five rows. -/
theorem exec_asd (r : BitVec 4) (s : State) (h : r.toNat ≤ 14) :
    exec (.asd r) s = done (0xD0#8 ||| r.zeroExtend 8) (s.decimalAddScratch (spForm r)) := by
  rcases field_cases r h with h | ⟨h1, h⟩ | rfl | rfl | rfl
  · simp [Instr.asd, scratchRow, h, spForm, show r.toNat ≤ 11 by omega, exec, execAsdLow]
  · simp [Instr.asd, scratchRow, h, h1, spForm, exec, execAsdHigh]
  all_goals rfl

/-- XS by the field's number, all five rows. -/
theorem exec_xs (r : BitVec 4) (s : State) (h : r.toNat ≤ 14) :
    exec (.xs r) s = done (0xE0#8 ||| r.zeroExtend 8) (s.xorScratch (spForm r)) := by
  rcases field_cases r h with h | ⟨h1, h⟩ | rfl | rfl | rfl
  · simp [Instr.xs, scratchRow, h, spForm, show r.toNat ≤ 11 by omega, exec, execXsLow]
  · simp [Instr.xs, scratchRow, h, h1, spForm, exec, execXsHigh]
  all_goals rfl

/-- NS by the field's number, all five rows. -/
theorem exec_ns (r : BitVec 4) (s : State) (h : r.toNat ≤ 14) :
    exec (.ns r) s = done (0xF0#8 ||| r.zeroExtend 8) (s.andScratch (spForm r)) := by
  rcases field_cases r h with h | ⟨h1, h⟩ | rfl | rfl | rfl
  · simp [Instr.ns, scratchRow, h, spForm, show r.toNat ≤ 11 by omega, exec, execNsLow]
  · simp [Instr.ns, scratchRow, h, h1, spForm, exec, execNsHigh]
  all_goals rfl

end Sys2Proof.Machine
end

