-- ==== Sys2Proof/Laws/PerInstr.lean ====
section
/-! SUPPORT. Statements for all instructions, one lemma for each constructor. -/

namespace Sys2Proof.Laws

/-- A well-formed instruction has as many operand bytes as its opcode byte announces to the fetch (30_encoding.md
R300, R304). -/
def EncodedLength.Statement (i : Instr) : Prop := i.wf = true → (operandBytes i).length = operandCount (opcode i)

theorem EncodedLength.lrAKU : EncodedLength.Statement .lrAKU := fun _ => rfl
theorem EncodedLength.lrAKL : EncodedLength.Statement .lrAKL := fun _ => rfl
theorem EncodedLength.lrAQU : EncodedLength.Statement .lrAQU := fun _ => rfl
theorem EncodedLength.lrAQL : EncodedLength.Statement .lrAQL := fun _ => rfl
theorem EncodedLength.lrKUA : EncodedLength.Statement .lrKUA := fun _ => rfl
theorem EncodedLength.lrKLA : EncodedLength.Statement .lrKLA := fun _ => rfl
theorem EncodedLength.lrQUA : EncodedLength.Statement .lrQUA := fun _ => rfl
theorem EncodedLength.lrQLA : EncodedLength.Statement .lrQLA := fun _ => rfl
theorem EncodedLength.lrKP : EncodedLength.Statement .lrKP := fun _ => rfl
theorem EncodedLength.lrPK : EncodedLength.Statement .lrPK := fun _ => rfl
theorem EncodedLength.lrAIS : EncodedLength.Statement .lrAIS := fun _ => rfl
theorem EncodedLength.lrISA : EncodedLength.Statement .lrISA := fun _ => rfl
theorem EncodedLength.pk : EncodedLength.Statement .pk := fun _ => rfl
theorem EncodedLength.lrP0Q : EncodedLength.Statement .lrP0Q := fun _ => rfl
theorem EncodedLength.lrQDC : EncodedLength.Statement .lrQDC := fun _ => rfl
theorem EncodedLength.lrDCQ : EncodedLength.Statement .lrDCQ := fun _ => rfl
theorem EncodedLength.lrDCH : EncodedLength.Statement .lrDCH := fun _ => rfl
theorem EncodedLength.lrHDC : EncodedLength.Statement .lrHDC := fun _ => rfl
theorem EncodedLength.sr1 : EncodedLength.Statement .sr1 := fun _ => rfl
theorem EncodedLength.sl1 : EncodedLength.Statement .sl1 := fun _ => rfl
theorem EncodedLength.sr4 : EncodedLength.Statement .sr4 := fun _ => rfl
theorem EncodedLength.sl4 : EncodedLength.Statement .sl4 := fun _ => rfl
theorem EncodedLength.lm : EncodedLength.Statement .lm := fun _ => rfl
theorem EncodedLength.st : EncodedLength.Statement .st := fun _ => rfl
theorem EncodedLength.com : EncodedLength.Statement .com := fun _ => rfl
theorem EncodedLength.lnk : EncodedLength.Statement .lnk := fun _ => rfl
theorem EncodedLength.di : EncodedLength.Statement .di := fun _ => rfl
theorem EncodedLength.ei : EncodedLength.Statement .ei := fun _ => rfl
theorem EncodedLength.pop : EncodedLength.Statement .pop := fun _ => rfl
theorem EncodedLength.lrWJ : EncodedLength.Statement .lrWJ := fun _ => rfl
theorem EncodedLength.lrJW : EncodedLength.Statement .lrJW := fun _ => rfl
theorem EncodedLength.inc : EncodedLength.Statement .inc := fun _ => rfl
theorem EncodedLength.li (imm : Byte) : EncodedLength.Statement (.li imm) := fun _ => rfl
theorem EncodedLength.ni (imm : Byte) : EncodedLength.Statement (.ni imm) := fun _ => rfl
theorem EncodedLength.oi (imm : Byte) : EncodedLength.Statement (.oi imm) := fun _ => rfl
theorem EncodedLength.xi (imm : Byte) : EncodedLength.Statement (.xi imm) := fun _ => rfl
theorem EncodedLength.ai (imm : Byte) : EncodedLength.Statement (.ai imm) := fun _ => rfl
theorem EncodedLength.ci (imm : Byte) : EncodedLength.Statement (.ci imm) := fun _ => rfl
theorem EncodedLength.inAa (port : Byte) : EncodedLength.Statement (.inAa port) := fun _ => rfl
theorem EncodedLength.outAa (port : Byte) : EncodedLength.Statement (.outAa port) := fun _ => rfl
theorem EncodedLength.pi (addr : Addr) : EncodedLength.Statement (.pi addr) := fun _ => rfl
theorem EncodedLength.jmp (addr : Addr) : EncodedLength.Statement (.jmp addr) := fun _ => rfl
theorem EncodedLength.dci (addr : Addr) : EncodedLength.Statement (.dci addr) := fun _ => rfl
theorem EncodedLength.nop : EncodedLength.Statement .nop := fun _ => rfl
theorem EncodedLength.xdc : EncodedLength.Statement .xdc := fun _ => rfl
theorem EncodedLength.dsLow (r : BitVec 4) : EncodedLength.Statement (.dsLow r) := by unfold EncodedLength.Statement; revert r; decide
theorem EncodedLength.dsHigh (r : BitVec 4) : EncodedLength.Statement (.dsHigh r) := by unfold EncodedLength.Statement; revert r; decide
theorem EncodedLength.dsS : EncodedLength.Statement .dsS := fun _ => rfl
theorem EncodedLength.dsI : EncodedLength.Statement .dsI := fun _ => rfl
theorem EncodedLength.dsD : EncodedLength.Statement .dsD := fun _ => rfl
theorem EncodedLength.lrALow (r : BitVec 4) : EncodedLength.Statement (.lrALow r) := by unfold EncodedLength.Statement; revert r; decide
theorem EncodedLength.lrAHigh (r : BitVec 4) : EncodedLength.Statement (.lrAHigh r) := by unfold EncodedLength.Statement; revert r; decide
theorem EncodedLength.lrAS : EncodedLength.Statement .lrAS := fun _ => rfl
theorem EncodedLength.lrAI : EncodedLength.Statement .lrAI := fun _ => rfl
theorem EncodedLength.lrAD : EncodedLength.Statement .lrAD := fun _ => rfl
theorem EncodedLength.lrLowA (r : BitVec 4) : EncodedLength.Statement (.lrLowA r) := by unfold EncodedLength.Statement; revert r; decide
theorem EncodedLength.lrHighA (r : BitVec 4) : EncodedLength.Statement (.lrHighA r) := by unfold EncodedLength.Statement; revert r; decide
theorem EncodedLength.lrSA : EncodedLength.Statement .lrSA := fun _ => rfl
theorem EncodedLength.lrIA : EncodedLength.Statement .lrIA := fun _ => rfl
theorem EncodedLength.lrDA : EncodedLength.Statement .lrDA := fun _ => rfl
theorem EncodedLength.lisu (i : BitVec 3) : EncodedLength.Statement (.lisu i) := by unfold EncodedLength.Statement; revert i; decide
theorem EncodedLength.lisl (i : BitVec 3) : EncodedLength.Statement (.lisl i) := by unfold EncodedLength.Statement; revert i; decide
theorem EncodedLength.lis (i : BitVec 4) : EncodedLength.Statement (.lis i) := by unfold EncodedLength.Statement; revert i; decide
theorem EncodedLength.bt (t : BitVec 3) (n : Byte) : EncodedLength.Statement (.bt t n) := by
  have h : ∀ t : BitVec 3, 1 = operandCount (0x80#8 ||| t.zeroExtend 8) := by decide
  exact fun _ => h t
theorem EncodedLength.am : EncodedLength.Statement .am := fun _ => rfl
theorem EncodedLength.amd : EncodedLength.Statement .amd := fun _ => rfl
theorem EncodedLength.nm : EncodedLength.Statement .nm := fun _ => rfl
theorem EncodedLength.om : EncodedLength.Statement .om := fun _ => rfl
theorem EncodedLength.xm : EncodedLength.Statement .xm := fun _ => rfl
theorem EncodedLength.cm : EncodedLength.Statement .cm := fun _ => rfl
theorem EncodedLength.adc : EncodedLength.Statement .adc := fun _ => rfl
theorem EncodedLength.br7 (n : Byte) : EncodedLength.Statement (.br7 n) := fun _ => rfl
theorem EncodedLength.bf (t : BitVec 4) (n : Byte) : EncodedLength.Statement (.bf t n) := by
  have h : ∀ t : BitVec 4, 1 = operandCount (0x90#8 ||| t.zeroExtend 8) := by decide
  exact fun _ => h t
theorem EncodedLength.ins01 (p : BitVec 4) : EncodedLength.Statement (.ins01 p) := by unfold EncodedLength.Statement; revert p; decide
theorem EncodedLength.ins23 (p : BitVec 4) : EncodedLength.Statement (.ins23 p) := by unfold EncodedLength.Statement; revert p; decide
theorem EncodedLength.ins47 (p : BitVec 4) : EncodedLength.Statement (.ins47 p) := by unfold EncodedLength.Statement; revert p; decide
theorem EncodedLength.ins8F (p : BitVec 4) : EncodedLength.Statement (.ins8F p) := by unfold EncodedLength.Statement; revert p; decide
theorem EncodedLength.outs01 (p : BitVec 4) : EncodedLength.Statement (.outs01 p) := by unfold EncodedLength.Statement; revert p; decide
theorem EncodedLength.outs23 (p : BitVec 4) : EncodedLength.Statement (.outs23 p) := by unfold EncodedLength.Statement; revert p; decide
theorem EncodedLength.outs47 (p : BitVec 4) : EncodedLength.Statement (.outs47 p) := by unfold EncodedLength.Statement; revert p; decide
theorem EncodedLength.outs8F (p : BitVec 4) : EncodedLength.Statement (.outs8F p) := by unfold EncodedLength.Statement; revert p; decide
theorem EncodedLength.asLow (r : BitVec 4) : EncodedLength.Statement (.asLow r) := by unfold EncodedLength.Statement; revert r; decide
theorem EncodedLength.asHigh (r : BitVec 4) : EncodedLength.Statement (.asHigh r) := by unfold EncodedLength.Statement; revert r; decide
theorem EncodedLength.asS : EncodedLength.Statement .asS := fun _ => rfl
theorem EncodedLength.asI : EncodedLength.Statement .asI := fun _ => rfl
theorem EncodedLength.asD : EncodedLength.Statement .asD := fun _ => rfl
theorem EncodedLength.asdLow (r : BitVec 4) : EncodedLength.Statement (.asdLow r) := by unfold EncodedLength.Statement; revert r; decide
theorem EncodedLength.asdHigh (r : BitVec 4) : EncodedLength.Statement (.asdHigh r) := by unfold EncodedLength.Statement; revert r; decide
theorem EncodedLength.asdS : EncodedLength.Statement .asdS := fun _ => rfl
theorem EncodedLength.asdI : EncodedLength.Statement .asdI := fun _ => rfl
theorem EncodedLength.asdD : EncodedLength.Statement .asdD := fun _ => rfl
theorem EncodedLength.xsLow (r : BitVec 4) : EncodedLength.Statement (.xsLow r) := by unfold EncodedLength.Statement; revert r; decide
theorem EncodedLength.xsHigh (r : BitVec 4) : EncodedLength.Statement (.xsHigh r) := by unfold EncodedLength.Statement; revert r; decide
theorem EncodedLength.xsS : EncodedLength.Statement .xsS := fun _ => rfl
theorem EncodedLength.xsI : EncodedLength.Statement .xsI := fun _ => rfl
theorem EncodedLength.xsD : EncodedLength.Statement .xsD := fun _ => rfl
theorem EncodedLength.nsLow (r : BitVec 4) : EncodedLength.Statement (.nsLow r) := by unfold EncodedLength.Statement; revert r; decide
theorem EncodedLength.nsHigh (r : BitVec 4) : EncodedLength.Statement (.nsHigh r) := by unfold EncodedLength.Statement; revert r; decide
theorem EncodedLength.nsS : EncodedLength.Statement .nsS := fun _ => rfl
theorem EncodedLength.nsI : EncodedLength.Statement .nsI := fun _ => rfl
theorem EncodedLength.nsD : EncodedLength.Statement .nsD := fun _ => rfl
theorem EncodedLength.undef2D : EncodedLength.Statement .undef2D := fun _ => rfl
theorem EncodedLength.undef2E : EncodedLength.Statement .undef2E := fun _ => rfl
theorem EncodedLength.undef2F : EncodedLength.Statement .undef2F := fun _ => rfl
theorem EncodedLength.undef3F : EncodedLength.Statement .undef3F := fun _ => rfl
theorem EncodedLength.undef4F : EncodedLength.Statement .undef4F := fun _ => rfl
theorem EncodedLength.undef5F : EncodedLength.Statement .undef5F := fun _ => rfl
theorem EncodedLength.undefCF : EncodedLength.Statement .undefCF := fun _ => rfl
theorem EncodedLength.undefDF : EncodedLength.Statement .undefDF := fun _ => rfl
theorem EncodedLength.undefEF : EncodedLength.Statement .undefEF := fun _ => rfl
theorem EncodedLength.undefFF : EncodedLength.Statement .undefFF := fun _ => rfl

end Sys2Proof.Laws
end

