-- ==== Sys2Proof/Laws/Step.lean ====
section
/-! SUPPORT. What a step of the machine can do, said once: the opening of a frame, the end of a turn, and the three
ways a step answers. -/

namespace Sys2Proof.Machine

@[simp] theorem test_debt_of_running (c : Config) (f : Scheduler) (h : (f.elapsed : Int) < budget c f.debt) :
    Scheduler.test c f = { f with phase := .running } := if_pos h

@[simp] theorem test_of_met (c : Config) (f : Scheduler) (h : budget c f.debt ≤ f.elapsed) :
    Scheduler.test c f = { debt := budget c f.debt - f.elapsed, elapsed := f.elapsed, phase := .idle } :=
  if_neg (not_lt.mpr h)

/-- Inside a frame nothing happens before the instruction. -/
theorem State.beginFrame_of_running (s : State) (h : s.sched.phase = .running) : s.beginFrame = s := by
  unfold State.beginFrame; rw [h]

/-- Outside a frame the next one opens, when it has a budget. -/
theorem State.beginFrame_of_budget (s : State) (h : s.sched.phase = .idle) (hb : 0 < budget s.cfg s.sched.debt) :
    s.beginFrame = { s with
      samples := [], frameOut := [], sched := { s.sched with elapsed := 0, phase := .running } } := by
  unfold State.beginFrame
  rw [h]
  simp only
  rw [test_debt_of_running _ _ (by simpa using hb)]
  rfl

/-- Outside a frame, the next one ends at once when it has none. -/
theorem State.beginFrame_of_no_budget (s : State) (h : s.sched.phase = .idle)
    (hb : budget s.cfg s.sched.debt ≤ 0) :
    s.beginFrame = { s with
      samples := [], frameOut := resolvePalette s.cfg s.video.fb
      sched := { debt := budget s.cfg s.sched.debt, elapsed := 0, phase := .idle } } := by
  unfold State.beginFrame
  rw [h]
  simp only
  rw [test_of_met _ _ (by simpa using hb)]
  simp [State.frameImage]

/-- The opening of a frame changes the scheduler and the output streams only. -/
theorem State.beginFrame_frame (s : State) :
    s.beginFrame = { s with
      samples := s.beginFrame.samples, frameOut := s.beginFrame.frameOut, sched := s.beginFrame.sched } := by
  unfold State.beginFrame
  split <;> rfl

/-- The end of a turn changes the scheduler, the tone generator and the output streams only. -/
theorem State.endTurn_eq (s : State) :
    s.endTurn = { s with
      tone := (toneTick s.cfg s.ticks s.tone).1, samples := s.samples ++ (toneTick s.cfg s.ticks s.tone).2
      sched := s.endTurn.sched, frameOut := s.endTurn.frameOut } := rfl

@[simp] theorem State.endTurn_sched (s : State) :
    s.endTurn.sched = Scheduler.test s.cfg { s.sched with elapsed := s.sched.elapsed + s.ticks } := rfl

/-- Everything a step can do: a frame with no budget that begins and ends, a refusal by the HLE predicate, or the
instruction at PC0 and the end of its turn. -/
theorem step_cases (s : State) :
    (s.beginFrame.sched.phase = .idle ∧ step s = .next s.beginFrame)
    ∨ (s.beginFrame.sched.phase = .running ∧ s.beginFrame.hlePredicate = true
        ∧ step s = .refused (.hleStep s.beginFrame.pc0))
    ∨ (s.beginFrame.sched.phase = .running ∧ s.beginFrame.hlePredicate = false
        ∧ step s = match exec (fetchInstr s.beginFrame).1 (fetchInstr s.beginFrame).2 with
          | .next t => .next t.endTurn
          | .fault f => .fault f
          | .refused r => .refused r) := by
  unfold step State.cycle
  simp only
  cases hp : s.beginFrame.sched.phase with
  | idle => exact .inl ⟨rfl, rfl⟩
  | running =>
    right
    simp only [State.turn]
    cases hh : s.beginFrame.hlePredicate with
    | true => exact .inl ⟨trivial, rfl, rfl⟩
    | false => exact .inr ⟨trivial, rfl, rfl⟩

/-- The next states of a step. -/
theorem step_next_cases (s t : State) (h : step s = .next t) :
    (s.beginFrame.sched.phase = .idle ∧ t = s.beginFrame)
    ∨ (s.beginFrame.sched.phase = .running ∧ s.beginFrame.hlePredicate = false
        ∧ ∃ u, exec (fetchInstr s.beginFrame).1 (fetchInstr s.beginFrame).2 = .next u ∧ t = u.endTurn) := by
  rcases step_cases s with ⟨hp, hs⟩ | ⟨_, _, hs⟩ | ⟨hp, hh, hs⟩
  · rw [hs] at h
    exact .inl ⟨hp, by injection h with h; exact h.symm⟩
  · rw [hs] at h
    cases h
  · rw [hs] at h
    right
    refine ⟨hp, hh, ?_⟩
    revert h
    cases exec (fetchInstr s.beginFrame).1 (fetchInstr s.beginFrame).2 with
    | next u => intro h; exact ⟨u, rfl, by injection h with h; exact h.symm⟩
    | fault f => intro h; cases h
    | refused r => intro h; cases h

end Sys2Proof.Machine
end

