-- ==== Sys2Proof/Tests/Slice0.lean ====
section
/-! SUPPORT. Small tests: the well-formedness checks, a written-out word for every constructor, vectors of
95_test_vectors.md one step each, and for every obligation with hypotheses a state and operands that meet them. -/

namespace Sys2Proof.Tests

-- One theorem at a time: a file of many kernel evaluations otherwise starts a thread for each.
set_option Elab.async false

open Sys2Proof Sys2Proof.Machine

/-! ## Well-formedness: each check refuses a term -/

theorem test_wf_low : ([Instr.dsLow 8, .lrALow 8, .lrLowA 8, .asLow 8, .asdLow 8, .xsLow 8, .nsLow 8].any Instr.wf)
    = false := by decide

theorem test_wf_high : ([Instr.dsHigh 7, .dsHigh 12, .lrAHigh 7, .lrAHigh 12, .lrHighA 7, .lrHighA 12, .asHigh 7,
    .asHigh 12, .asdHigh 7, .asdHigh 12, .xsHigh 7, .xsHigh 12, .nsHigh 7, .nsHigh 12].any Instr.wf) = false := by
  decide

theorem test_wf_short_ports : ([Instr.ins01 2, .ins23 1, .ins23 4, .ins47 3, .ins47 8, .ins8F 7, .outs01 2, .outs23 1,
    .outs23 4, .outs47 3, .outs47 8, .outs8F 7].any Instr.wf) = false := by decide

/-! ## Decoding: words written out bit by bit from the spec's encodings -/

/-- The decoder reads exactly this instruction from these bytes. -/
def reads (bytes : List Byte) (i : Instr) : Bool :=
  match decode bytes with
  | .ok (j, rest) => j == i && rest.isEmpty
  | .error _ => false

/-- Rows LR_A_KU to LR_P0_Q of the opcode table. -/
theorem test_decode_1 : ([([0b00000000#8], Instr.lrAKU),
    ([0b00000001#8], .lrAKL),
    ([0b00000010#8], .lrAQU),
    ([0b00000011#8], .lrAQL),
    ([0b00000100#8], .lrKUA),
    ([0b00000101#8], .lrKLA),
    ([0b00000110#8], .lrQUA),
    ([0b00000111#8], .lrQLA),
    ([0b00001000#8], .lrKP),
    ([0b00001001#8], .lrPK),
    ([0b00001010#8], .lrAIS),
    ([0b00001011#8], .lrISA),
    ([0b00001100#8], .pk),
    ([0b00001101#8], .lrP0Q)] : List (List Byte × Instr)).all (fun p => reads p.1 p.2) = true := by decide

/-- Rows LR_Q_DC to EI of the opcode table. -/
theorem test_decode_2 : ([([0b00001110#8], Instr.lrQDC),
    ([0b00001111#8], .lrDCQ),
    ([0b00010000#8], .lrDCH),
    ([0b00010001#8], .lrHDC),
    ([0b00010010#8], .sr1),
    ([0b00010011#8], .sl1),
    ([0b00010100#8], .sr4),
    ([0b00010101#8], .sl4),
    ([0b00010110#8], .lm),
    ([0b00010111#8], .st),
    ([0b00011000#8], .com),
    ([0b00011001#8], .lnk),
    ([0b00011010#8], .di),
    ([0b00011011#8], .ei)] : List (List Byte × Instr)).all (fun p => reads p.1 p.2) = true := by decide

/-- Rows POP to JMP_aaaa of the opcode table. -/
theorem test_decode_3 : ([([0b00011100#8], Instr.pop),
    ([0b00011101#8], .lrWJ),
    ([0b00011110#8], .lrJW),
    ([0b00011111#8], .inc),
    ([0b00100000#8, 0b10100101#8], .li 0xA5),
    ([0b00100001#8, 0b10100101#8], .ni 0xA5),
    ([0b00100010#8, 0b10100101#8], .oi 0xA5),
    ([0b00100011#8, 0b10100101#8], .xi 0xA5),
    ([0b00100100#8, 0b10100101#8], .ai 0xA5),
    ([0b00100101#8, 0b10100101#8], .ci 0xA5),
    ([0b00100110#8, 0b10100101#8], .inAa 0xA5),
    ([0b00100111#8, 0b10100101#8], .outAa 0xA5),
    ([0b00101000#8, 0b00010010#8, 0b11000011#8], .pi 0x12C3),
    ([0b00101001#8, 0b00010010#8, 0b11000011#8], .jmp 0x12C3)] : List (List Byte × Instr)).all (fun p => reads p.1 p.2) = true := by decide

/-- Rows DCI_aaaa to LR_r_A__r___0..7 of the opcode table. -/
theorem test_decode_4 : ([([0b00101010#8, 0b00010010#8, 0b11000011#8], Instr.dci 0x12C3),
    ([0b00101011#8], .nop),
    ([0b00101100#8], .xdc),
    ([0b00110101#8], .dsLow 5),
    ([0b00111001#8], .dsHigh 9),
    ([0b00111100#8], .dsS),
    ([0b00111101#8], .dsI),
    ([0b00111110#8], .dsD),
    ([0b01000101#8], .lrALow 5),
    ([0b01001001#8], .lrAHigh 9),
    ([0b01001100#8], .lrAS),
    ([0b01001101#8], .lrAI),
    ([0b01001110#8], .lrAD),
    ([0b01010101#8], .lrLowA 5)] : List (List Byte × Instr)).all (fun p => reads p.1 p.2) = true := by decide

/-- Rows LR_r_A__r___8..11 to CM of the opcode table. -/
theorem test_decode_5 : ([([0b01011001#8], Instr.lrHighA 9),
    ([0b01011100#8], .lrSA),
    ([0b01011101#8], .lrIA),
    ([0b01011110#8], .lrDA),
    ([0b01100101#8], .lisu 5),
    ([0b01101110#8], .lisl 6),
    ([0b01111011#8], .lis 11),
    ([0b10000100#8, 0b10100101#8], .bt 4 0xA5),
    ([0b10001000#8], .am),
    ([0b10001001#8], .amd),
    ([0b10001010#8], .nm),
    ([0b10001011#8], .om),
    ([0b10001100#8], .xm),
    ([0b10001101#8], .cm)] : List (List Byte × Instr)).all (fun p => reads p.1 p.2) = true := by decide

/-- Rows ADC to AS_S__r___12 of the opcode table. -/
theorem test_decode_6 : ([([0b10001110#8], Instr.adc),
    ([0b10001111#8, 0b10100101#8], .br7 0xA5),
    ([0b10011001#8, 0b10100101#8], .bf 9 0xA5),
    ([0b10100001#8], .ins01 1),
    ([0b10100010#8], .ins23 2),
    ([0b10100110#8], .ins47 6),
    ([0b10101100#8], .ins8F 12),
    ([0b10110000#8], .outs01 0),
    ([0b10110011#8], .outs23 3),
    ([0b10110101#8], .outs47 5),
    ([0b10111111#8], .outs8F 15),
    ([0b11000101#8], .asLow 5),
    ([0b11001001#8], .asHigh 9),
    ([0b11001100#8], .asS)] : List (List Byte × Instr)).all (fun p => reads p.1 p.2) = true := by decide

/-- Rows AS_I__r___13 to NS_r__r___8..11 of the opcode table. -/
theorem test_decode_7 : ([([0b11001101#8], Instr.asI),
    ([0b11001110#8], .asD),
    ([0b11010101#8], .asdLow 5),
    ([0b11011001#8], .asdHigh 9),
    ([0b11011100#8], .asdS),
    ([0b11011101#8], .asdI),
    ([0b11011110#8], .asdD),
    ([0b11100101#8], .xsLow 5),
    ([0b11101001#8], .xsHigh 9),
    ([0b11101100#8], .xsS),
    ([0b11101101#8], .xsI),
    ([0b11101110#8], .xsD),
    ([0b11110101#8], .nsLow 5),
    ([0b11111001#8], .nsHigh 9)] : List (List Byte × Instr)).all (fun p => reads p.1 p.2) = true := by decide

/-- Rows NS_S__r___12 to (undefined) of the opcode table. -/
theorem test_decode_8 : ([([0b11111100#8], Instr.nsS),
    ([0b11111101#8], .nsI),
    ([0b11111110#8], .nsD),
    ([0b00101101#8], .undef2D),
    ([0b00101110#8], .undef2E),
    ([0b00101111#8], .undef2F),
    ([0b00111111#8], .undef3F),
    ([0b01001111#8], .undef4F),
    ([0b01011111#8], .undef5F),
    ([0b11001111#8], .undefCF),
    ([0b11011111#8], .undefDF),
    ([0b11101111#8], .undefEF),
    ([0b11111111#8], .undefFF)] : List (List Byte × Instr)).all (fun p => reads p.1 p.2) = true := by decide

theorem test_decode_short : reads [] .nop = false ∧ reads [0b00101000#8, 0x12#8] (.pi 0x1200) = false
    ∧ reads [0b10000100#8] (.bt 4 0) = false := by decide

theorem test_decode_table_word : decodeTableWord 8 0x2B = some .nop ∧ decodeTableWord 16 0xC320 = some (.li 0xC3)
    ∧ decodeTableWord 24 0x100828 = some (.pi 0x0810) := by decide

/-! ## Vectors of 95_test_vectors.md, one instruction each -/

/-- A machine with the vectors' parameters, at the cartridge's base. -/
def vec : State := { State.reset with cfg := Config.testVectors, pc0 := 0x0800 }

/-- The outcome is a next state with this property. -/
def nextIs (r : Result) (p : State → Bool) : Bool :=
  match r with
  | .next t => p t
  | .fault _ => false
  | .refused _ => false

theorem exists_next {r : Result} {p : State → Bool} (h : nextIs r p = true) : ∃ t, r = .next t ∧ p t = true := by
  cases r with
  | next t => exact ⟨t, rfl, h⟩
  | fault f => cases h
  | refused f => cases h

/-- A and W before an instruction. -/
def withAW (a : Byte) (w : BitVec 5) : State := { vec with a := a, w := w }

/-- A, W and ISAR before an instruction, and one scratchpad byte. -/
def withSp (a : Byte) (isar k : SpIndex) (v : Byte) : State := { vec.setSp k v with a := a, isar := isar }

/-- A, and the byte at DC0 = 0x0900. -/
def withMem (a v : Byte) (w : BitVec 5) : State :=
  { vec with a := a, w := w, dc0 := 0x0900, mem := Cells.write [] 0x0900 v }

theorem test_lrAKU :
    nextIs (exec .lrAKU (withSp 0 0 12 0x9C))
      (fun t => t.a == 0x9C && t.w == 0 && t.ticks == 4) = true := by decide +kernel

theorem test_lrAKL : nextIs (exec .lrAKL (withSp 0 0 13 0x9C)) (fun t => t.a == 0x9C) = true := by decide +kernel

theorem test_lrAQU : nextIs (exec .lrAQU (withSp 0 0 14 0x9C)) (fun t => t.a == 0x9C) = true := by decide +kernel

theorem test_lrAQL : nextIs (exec .lrAQL (withSp 0 0 15 0x9C)) (fun t => t.a == 0x9C) = true := by decide +kernel

theorem test_lrKUA :
    nextIs (exec .lrKUA (withAW 0x10 0))
      (fun t => t.sp 12 == 0x10 && t.sp 13 == 0) = true := by decide +kernel

theorem test_lrKLA :
    nextIs (exec .lrKLA (withAW 0x10 0))
      (fun t => t.sp 13 == 0x10 && t.sp 12 == 0) = true := by decide +kernel

theorem test_lrQUA :
    nextIs (exec .lrQUA (withAW 0x10 0))
      (fun t => t.sp 14 == 0x10 && t.sp 15 == 0) = true := by decide +kernel

theorem test_lrQLA :
    nextIs (exec .lrQLA (withAW 0x10 0))
      (fun t => t.sp 15 == 0x10 && t.sp 14 == 0 && t.ticks == 4) = true := by decide +kernel

theorem test_lrAIS : nextIs (exec .lrAIS (withSp 0 0x2A 0 0)) (fun t => t.a == 0x2A) = true := by decide +kernel

theorem test_lrISA : nextIs (exec .lrISA (withAW 0xFF 0)) (fun t => t.isar == 0x3F) = true := by decide +kernel

theorem test_lrQDC :
    nextIs (exec .lrQDC { vec with dc0 := 0x1234 })
      (fun t => t.sp 14 == 0x12 && t.sp 15 == 0x34 && t.ticks == 16) = true := by decide +kernel

theorem test_lrDCQ :
    nextIs (exec .lrDCQ ((vec.setSp 14 0xAB).setSp 15 0xCD))
      (fun t => t.dc0 == 0xABCD) = true := by decide +kernel

theorem test_lrDCH :
    nextIs (exec .lrDCH ((vec.setSp 10 0x28).setSp 11 0x00))
      (fun t => t.dc0 == 0x2800) = true := by decide +kernel

theorem test_lrHDC :
    nextIs (exec .lrHDC { vec with dc0 := 0xFFFE })
      (fun t => t.sp 10 == 0xFF && t.sp 11 == 0xFE) = true := by decide +kernel

theorem test_lrWJ :
    nextIs (exec .lrWJ (vec.setSp 9 0xFF))
      (fun t => t.w == 0x1F && t.ticks == 8) = true := by decide +kernel

theorem test_lrWJ_drops_high_bits :
    nextIs (exec .lrWJ (vec.setSp 9 0xE4))
      (fun t => t.w == 0x04) = true := by decide +kernel

theorem test_lrJW :
    nextIs (exec .lrJW (withAW 0 0x15))
      (fun t => t.sp 9 == 0x15 && t.w == 0x15) = true := by decide +kernel

theorem test_lrA_direct :
    nextIs (exec (.lrALow 5) (withSp 0 0x3F 5 0x77))
      (fun t => t.a == 0x77 && t.isar == 0x3F) = true := by decide +kernel

theorem test_lrA_direct_high :
    nextIs (exec (.lrAHigh 9) (withSp 0 0x3F 9 0x78))
      (fun t => t.a == 0x78 && t.isar == 0x3F) = true := by decide +kernel

theorem test_lrAS :
    nextIs (exec .lrAS (withSp 0 0x21 0x21 0x5A))
      (fun t => t.a == 0x5A && t.isar == 0x21) = true := by decide +kernel

theorem test_lrAI_wraps :
    nextIs (exec .lrAI (withSp 0 0x0F 0x0F 0x33))
      (fun t => t.a == 0x33 && t.isar == 0x08) = true := by decide +kernel

theorem test_lrAD_wraps :
    nextIs (exec .lrAD (withSp 0 0x08 0x08 0x44))
      (fun t => t.a == 0x44 && t.isar == 0x0F) = true := by decide +kernel

theorem test_lr_low_A :
    nextIs (exec (.lrLowA 5) (withAW 0x1E 0))
      (fun t => t.sp 5 == 0x1E && t.w == 0) = true := by decide +kernel

theorem test_lr_high_A :
    nextIs (exec (.lrHighA 9) (withAW 0x1F 0))
      (fun t => t.sp 9 == 0x1F && t.w == 0) = true := by decide +kernel

theorem test_lrSA :
    nextIs (exec .lrSA (withSp 0xAA 0x27 0 0))
      (fun t => t.sp 0x27 == 0xAA && t.isar == 0x27) = true := by decide +kernel

theorem test_lrIA :
    nextIs (exec .lrIA (withSp 0xAA 0x27 0 0))
      (fun t => t.sp 0x27 == 0xAA && t.isar == 0x20) = true := by decide +kernel

theorem test_lrDA :
    nextIs (exec .lrDA (withSp 0xAA 0x27 0 0))
      (fun t => t.sp 0x27 == 0xAA && t.isar == 0x26) = true := by decide +kernel

theorem test_lisu : nextIs (exec (.lisu 7) (withSp 0 0x05 0 0)) (fun t => t.isar == 0x3D) = true := by decide +kernel

theorem test_lisl : nextIs (exec (.lisl 0) (withSp 0 0x3D 0 0)) (fun t => t.isar == 0x38) = true := by decide +kernel

theorem test_lis :
    nextIs (exec (.lis 15) (withAW 0 0x5))
      (fun t => t.a == 0x0F && t.w == 0x5) = true := by decide +kernel

theorem test_li :
    nextIs (exec (.li 0x80) (withAW 0 0x5))
      (fun t => t.a == 0x80 && t.w == 0x5 && t.ticks == 10) = true := by decide +kernel

theorem test_dci :
    nextIs (exec (.dci 0x1234) (withAW 0x77 0))
      (fun t => t.dc0 == 0x1234 && t.a == 0x77 && t.ticks == 24) = true := by decide +kernel

theorem test_xdc :
    nextIs (exec .xdc { vec with dc0 := 0x0900, dc1 := 0x2800 })
      (fun t => t.dc0 == 0x2800 && t.dc1 == 0x0900 && t.ticks == 8) = true := by decide +kernel

theorem test_adc_negative :
    nextIs (exec .adc { vec with dc0 := 0x1000, a := 0x80 })
      (fun t => t.dc0 == 0x0F80) = true := by decide +kernel

theorem test_adc_wraps :
    nextIs (exec .adc { vec with dc0 := 0xFFF0, a := 0x20 })
      (fun t => t.dc0 == 0x0010 && t.ticks == 10) = true := by decide +kernel

theorem test_lm :
    nextIs (exec .lm (withMem 0 0x11 0x5))
      (fun t => t.a == 0x11 && t.dc0 == 0x0901 && t.w == 0x5) = true := by decide +kernel

theorem test_lm_top :
    nextIs (exec .lm { vec with dc0 := 0xFFFF, mem := Cells.write [] 0xFFFF 0x3C })
      (fun t => t.a == 0x3C && t.dc0 == 0x0000) = true := by decide +kernel

theorem test_st_ram :
    nextIs (exec .st { vec with dc0 := 0x2800, a := 0x5A })
      (fun t => t.memRead 0x2800 == 0x5A && t.dc0 == 0x2801) = true := by decide +kernel

theorem test_st_dropped :
    nextIs (exec .st { vec with dc0 := 0x0800, a := 0x5A, mem := Cells.write [] 0x0800 0x70 })
      (fun t => t.memRead 0x0800 == 0x70 && t.dc0 == 0x0801) = true := by decide +kernel

theorem test_am :
    nextIs (exec .am (withMem 0xFF 0x01 0x10))
      (fun t => t.a == 0x00 && t.w == 0x17 && t.dc0 == 0x0901) = true := by decide +kernel

theorem test_am_overflow :
    nextIs (exec .am (withMem 0x7F 0x01 0))
      (fun t => t.a == 0x80 && t.w == 0x8 && t.ticks == 10) = true := by decide +kernel

theorem test_amd :
    nextIs (exec .amd (withMem 0x9E 0x45 0))
      (fun t => t.a == 0x83 && t.w == 0x0 && t.dc0 == 0x0901) = true := by decide +kernel

theorem test_nm :
    nextIs (exec .nm (withMem 0xF0 0x0F 0))
      (fun t => t.a == 0x00 && t.w == 0x5) = true := by decide +kernel

theorem test_om :
    nextIs (exec .om (withMem 0x80 0x01 0))
      (fun t => t.a == 0x81 && t.w == 0x0) = true := by decide +kernel

theorem test_xm :
    nextIs (exec .xm (withMem 0x5A 0x5A 0))
      (fun t => t.a == 0x00 && t.w == 0x5) = true := by decide +kernel

theorem test_cm_greater :
    nextIs (exec .cm (withMem 0x10 0x20 0))
      (fun t => t.a == 0x10 && t.w == 0x3 && t.dc0 == 0x0901) = true := by decide +kernel

theorem test_cm_less :
    nextIs (exec .cm (withMem 0x20 0x10 0))
      (fun t => t.a == 0x20 && t.w == 0x0) = true := by decide +kernel

theorem test_sr1 : nextIs (exec .sr1 (withAW 0x81 0)) (fun t => t.a == 0x40 && t.w == 0x1) = true := by decide +kernel

theorem test_sl1 : nextIs (exec .sl1 (withAW 0x80 0)) (fun t => t.a == 0x00 && t.w == 0x5) = true := by decide +kernel

theorem test_sr4 : nextIs (exec .sr4 (withAW 0xF0 0)) (fun t => t.a == 0x0F && t.w == 0x1) = true := by decide +kernel

theorem test_sl4 : nextIs (exec .sl4 (withAW 0x0F 0)) (fun t => t.a == 0xF0 && t.w == 0x0) = true := by decide +kernel

theorem test_com : nextIs (exec .com (withAW 0x01 0)) (fun t => t.a == 0xFE && t.w == 0x0) = true := by decide +kernel

theorem test_lnk_carry :
    nextIs (exec .lnk (withAW 0xFF 0x2))
      (fun t => t.a == 0x00 && t.w == 0x7) = true := by decide +kernel

theorem test_lnk_no_carry :
    nextIs (exec .lnk (withAW 0x10 0x0))
      (fun t => t.a == 0x10 && t.w == 0x1) = true := by decide +kernel

theorem test_inc :
    nextIs (exec .inc (withAW 0xFF 0x10))
      (fun t => t.a == 0x00 && t.w == 0x17) = true := by decide +kernel

theorem test_ni :
    nextIs (exec (.ni 0x00) (withAW 0x3C 0))
      (fun t => t.a == 0x00 && t.w == 0x5) = true := by decide +kernel

theorem test_oi :
    nextIs (exec (.oi 0x00) (withAW 0x80 0))
      (fun t => t.a == 0x80 && t.w == 0x0) = true := by decide +kernel

theorem test_xi :
    nextIs (exec (.xi 0xFF) (withAW 0x0F 0))
      (fun t => t.a == 0xF0 && t.w == 0x0) = true := by decide +kernel

theorem test_ai :
    nextIs (exec (.ai 0x80) (withAW 0x80 0))
      (fun t => t.a == 0x00 && t.w == 0xF) = true := by decide +kernel

theorem test_ai_bias :
    nextIs (exec (.ai 0x66) (withAW 0x38 0))
      (fun t => t.a == 0x9E && t.w == 0x8) = true := by decide +kernel

theorem test_ci_less :
    nextIs (exec (.ci 0x10) (withAW 0x20 0))
      (fun t => t.a == 0x20 && t.w == 0x0) = true := by decide +kernel

theorem test_ci_0x80 :
    nextIs (exec (.ci 0x00) (withAW 0x80 0))
      (fun t => t.a == 0x80 && t.w == 0x0) = true := by decide +kernel

theorem test_ds_borrow :
    nextIs (exec (.dsLow 1) (withSp 0x12 0 1 0x00))
      (fun t => t.sp 1 == 0xFF && t.w == 0x0 && t.a == 0x12) = true := by decide +kernel

theorem test_ds_overflow :
    nextIs (exec (.dsHigh 8) (withSp 0 0 8 0x80))
      (fun t => t.sp 8 == 0x7F && t.w == 0xB) = true := by decide +kernel

theorem test_dsS :
    nextIs (exec .dsS (withSp 0 0x17 0x17 0x01))
      (fun t => t.sp 0x17 == 0x00 && t.w == 0x7 && t.isar == 0x17) = true := by decide +kernel

theorem test_dsI :
    nextIs (exec .dsI (withSp 0 0x17 0x17 0x10))
      (fun t => t.sp 0x17 == 0x0F && t.w == 0x3 && t.isar == 0x10) = true := by decide +kernel

theorem test_dsD :
    nextIs (exec .dsD (withSp 0 0x10 0x10 0x10))
      (fun t => t.sp 0x10 == 0x0F && t.w == 0x3 && t.isar == 0x17) = true := by decide +kernel

theorem test_as_direct :
    nextIs (exec (.asLow 3) (withSp 0x40 0 3 0x40))
      (fun t => t.a == 0x80 && t.w == 0x8) = true := by decide +kernel

theorem test_asD :
    nextIs (exec .asD (withSp 0xC0 0x30 0x30 0xC0))
      (fun t => t.a == 0x80 && t.w == 0x2 && t.isar == 0x37) = true := by decide +kernel

theorem test_asd_direct :
    nextIs (exec (.asdLow 3) (withSp 0x9E 0 3 0x45))
      (fun t => t.a == 0x83 && t.w == 0x0 && t.ticks == 8) = true := by decide +kernel

theorem test_asdS :
    nextIs (exec .asdS (withSp 0xFF 0x12 0x12 0x01))
      (fun t => t.a == 0x00 && t.w == 0x7 && t.isar == 0x12) = true := by decide +kernel

theorem test_xs :
    nextIs (exec (.xsLow 4) (withSp 0xAA 0 4 0x55))
      (fun t => t.a == 0xFF && t.w == 0x0 && t.sp 4 == 0x55) = true := by decide +kernel

theorem test_ns :
    nextIs (exec (.nsLow 5) (withSp 0xAA 0 5 0x55))
      (fun t => t.a == 0x00 && t.w == 0x5) = true := by decide +kernel

theorem test_nsI :
    nextIs (exec .nsI (withSp 0xFF 0x07 0x07 0x81))
      (fun t => t.a == 0x81 && t.w == 0x0 && t.isar == 0x00) = true := by decide +kernel

theorem test_bt_zero_never :
    nextIs (exec (.bt 0 0x05) { vec with pc0 := 0x0812, w := 0xF, isar := 0 })
      (fun t => t.pc0 == 0x0812 && t.ticks == 12) = true := by decide +kernel

theorem test_bt_taken :
    nextIs (exec (.bt 6 0x05) { vec with pc0 := 0x0812, w := 0x2, isar := 0 })
      (fun t => t.pc0 == 0x0816 && t.ticks == 14) = true := by decide +kernel

theorem test_bf_icb_not_tested :
    nextIs (exec (.bf 15 0x05) { vec with pc0 := 0x0812, w := 0x10, isar := 0 })
      (fun t => t.pc0 == 0x0816 && t.ticks == 14) = true := by decide +kernel

theorem test_bf_not_taken :
    nextIs (exec (.bf 8 0x05) { vec with pc0 := 0x0812, w := 0x8, isar := 0 })
      (fun t => t.pc0 == 0x0812 && t.ticks == 12) = true := by decide +kernel

theorem test_br7_taken :
    nextIs (exec (.br7 0x05) { vec with pc0 := 0x0812, w := 0, isar := 0x38 })
      (fun t => t.pc0 == 0x0816 && t.ticks == 14) = true := by decide +kernel

theorem test_br7_not_taken :
    nextIs (exec (.br7 0x05) { vec with pc0 := 0x0812, w := 0, isar := 0x3F })
      (fun t => t.pc0 == 0x0812 && t.ticks == 8) = true := by decide +kernel

theorem test_jmp :
    nextIs (exec (.jmp 0x0A00) (withAW 0x55 0))
      (fun t => t.pc0 == 0x0A00 && t.a == 0x0A && t.pc1 == 0 && t.ticks == 22) = true := by decide +kernel

theorem test_pi :
    nextIs (exec (.pi 0x0810) { vec with pc0 := 0x0803, pc1 := 0x1234 })
      (fun t => t.pc0 == 0x0810 && t.pc1 == 0x0803 && t.a == 0x08 && t.ticks == 26) = true := by decide +kernel

theorem test_pk :
    nextIs (exec .pk { (vec.setSp 12 0x0A).setSp 13 0x00 with pc0 := 0x0901 })
      (fun t => t.pc0 == 0x0A00 && t.pc1 == 0x0901 && t.sp 12 == 0x0A) = true := by decide +kernel

theorem test_pop :
    nextIs (exec .pop { vec with pc1 := 0x0803 })
      (fun t => t.pc0 == 0x0803 && t.pc1 == 0x0803 && t.ticks == 8) = true := by decide +kernel

theorem test_lrP0Q :
    nextIs (exec .lrP0Q ((vec.setSp 14 0x08).setSp 15 0x40))
      (fun t => t.pc0 == 0x0840 && t.pc1 == 0) = true := by decide +kernel

theorem test_lrKP :
    nextIs (exec .lrKP { vec with pc1 := 0x0803 })
      (fun t => t.sp 12 == 0x08 && t.sp 13 == 0x03) = true := by decide +kernel

theorem test_lrPK :
    nextIs (exec .lrPK ((vec.setSp 12 0x08).setSp 13 0x03))
      (fun t => t.pc1 == 0x0803 && t.pc0 == 0x0800) = true := by decide +kernel

theorem test_in :
    nextIs (exec (.inAa 0x3F) { vec with latch := setLatch vec.latch 63 0x80 })
      (fun t => t.a == 0x80 && t.w == 0x0 && t.ticks == 16) = true := by decide +kernel

theorem test_out :
    nextIs (exec (.outAa 0x3F) (withAW 0x5A 0x1F))
      (fun t => t.latchAt 63 == 0x5A && t.w == 0x1F && t.video == vec.video && t.tone == vec.tone) = true := by decide +kernel

theorem test_ins2 :
    nextIs (exec (.ins23 2) (withAW 0x12 0x8))
      (fun t => t.a == 0x00 && t.w == 0x5 && t.ticks == 16) = true := by decide +kernel

theorem test_outs1_color :
    nextIs (exec (.outs01 1) (withAW 0x40 0))
      (fun t => t.latchAt 1 == 0x40 && t.video.color == 2 && t.ticks == 8) = true := by decide +kernel

theorem test_outs5_two_peripherals :
    nextIs (exec (.outs47 5) (withAW 0xEB 0))
      (fun t => t.latchAt 5 == 0xEB && t.video.y == 20 && t.tone.select == 3 && t.tone.amp == 1) = true := by decide +kernel

theorem test_di : nextIs (exec .di (withAW 0 0x17)) (fun t => t.w == 0x07) = true := by decide +kernel

theorem test_ei : nextIs (exec .ei (withAW 0 0x07)) (fun t => t.w == 0x17) = true := by decide +kernel

theorem test_nop : nextIs (exec .nop vec) (fun t => t.pc0 == 0x0800 && t.ticks == 4) = true := by decide +kernel

theorem test_undef :
    nextIs (exec .undefFF (withAW 0x12 0))
      (fun t => t.a == 0x12 && t.ticks == 4) = true := by decide +kernel

/-- The example layout E of 95_test_vectors.md 2.8, whose address bits are the ten low bits of the word. -/
def layoutE : Config := { Config.testVectors with eeAddrBit := [0, 1, 2, 3, 4, 5, 6, 7, 8, 9] }

theorem test_eeprom_write_poll :
    nextIs (exec (.outAa 0x21) { vec with cfg := layoutE, a := 0xC1, eeprom := { vec.eeprom with state := 0x0055 } })
      (fun t => t.eeprom.state == 0xC155 && Cells.read t.eeprom.mem 0x155 == 1 && t.latchAt 0x21 == 0xC1) = true := by decide +kernel

theorem test_eeprom_read_poll :
    nextIs (exec (.outAa 0x21) { vec with cfg := layoutE, a := 0x01, eeprom := { vec.eeprom with state := 0xC155, mem := [(0x155, 1)] } })
      (fun t => t.eeprom.state == 0x2155 && t.latchAt 0x21 == 0x21 && t.latchAt 0x20 == 0x55) = true := by decide +kernel

theorem test_video_strobe_fires :
    nextIs (exec (.outs01 0) { vec with a := 0xC0, video := { vec.video with arm := 0x60, color := 2, x := 10, y := 20 } })
      (fun t => Cells.read t.video.fb 2570 == 2 && t.video.arm == 0x40) = true := by decide +kernel

theorem test_video_strobe_repeats_not :
    nextIs (exec (.outs01 0) { vec with a := 0x40, video := { vec.video with arm := 0x40, color := 2 } })
      (fun t => t.video.fb.isEmpty && t.video.arm == 0x40) = true := by decide +kernel
/-! ## Whole steps, with the instruction fetched -/

/-- The vectors' machine with nothing loaded, at the reset entry point. -/
def loopStart : State := { vec with pc0 := 0 }

/-- LI 0x80 at 0x0800: PC0 = 0x0802. -/
theorem test_step_li : nextIs (step (vec.withFetchWord 16 0x8020)) (fun t => t.a == 0x80 && t.pc0 == 0x0802) = true := by
  decide +kernel

/-- PI 0x0000 at 0xFFFD: the return address wraps. -/
theorem test_step_pi_wraps : nextIs (step (State.withFetchWord { vec with pc0 := 0xFFFD } 24 0x000028))
    (fun t => t.pc0 == 0 && t.pc1 == 0 && t.a == 0) = true := by decide +kernel

/-- A branch at 0x0800 with displacement 0xFF targets itself, with 0x00 its own displacement byte. -/
theorem test_step_branch_targets :
    nextIs (step (vec.withFetchWord 16 0xFF90)) (fun t => t.pc0 == 0x0800) = true
    ∧ nextIs (step (vec.withFetchWord 16 0x0090)) (fun t => t.pc0 == 0x0801) = true
    ∧ nextIs (step (vec.withFetchWord 16 0x8090)) (fun t => t.pc0 == 0x0781) = true := by decide +kernel

/-- IN 0x40 at 0x0800 stops with PC0 = 0x0802. -/
theorem test_step_port_fault : step (vec.withFetchWord 16 0x4026) = .fault (.portOutOfRange 0x40 0x0802) := by
  rfl

/-- The last turn of the first frame of `BR .` with FRAME_TICKS = 100: 112 ticks, DEBT = -12. -/
theorem test_step_frame_ends :
    nextIs (step (State.withFetchWord { vec with sched := { debt := 0, elapsed := 98, phase := .running } } 16 0xFF90))
      (fun t => t.sched == { debt := -12, elapsed := 112, phase := .idle }) = true := by decide +kernel

/-- A frame with a budget of -2 runs no step and sets DEBT = -2. -/
theorem test_step_empty_frame :
    nextIs (step { vec with cfg := { vec.cfg with frameTicks := 10 }, sched := { debt := -12, elapsed := 0, phase := .idle } })
      (fun t => t.sched.debt == -2 && t.pc0 == 0x0800) = true := by decide +kernel

/-- Tone.tick(25) from TACC = 0: two samples, TACC = 5. -/
theorem test_tone_tick : (toneTick Config.testVectors 25 vec.tone).2.length = 2
    ∧ (toneTick Config.testVectors 25 vec.tone).1.tacc = 5 := by decide +kernel

/-- Tone.tick(6) from TACC = 4 in silence: one zero sample, whatever AMP is, and PHASE advances. -/
theorem test_tone_silence : (toneTick Config.testVectors 6 { select := 0, amp := 7, phase := 0, tacc := 4 }).2
      = [{ left := 0, right := 0 }]
    ∧ (toneTick Config.testVectors 6 { select := 0, amp := 7, phase := 0, tacc := 4 }).1.phase = 1 := by decide +kernel

/-- Parameters whose address bits are contiguous (in order or not), or whose LR A,S costs more than LR A,r, are not
valid (60_exceptions.md R760; 70_reset_and_hazards.md R841). -/
theorem test_parameters_refused :
    layoutE.valid = false
    ∧ Config.valid { Config.testVectors with eeAddrBit := [11, 2, 3, 10, 5, 6, 7, 8, 9, 4] } = false
    ∧ Config.valid { Config.testVectors with cost := Config.testVectors.cost.set 0x4C 6 } = false := by decide +kernel

/-- A launch with only the upper firmware half missing runs at 0x0000 and is refused once PC0 is in that half (log
entry 19). -/
theorem test_upper_half_missing :
    nextIs (step { loopStart with hle := { loopStart.hle with hi := true } }) (fun t => t.pc0 == 1) = true
    ∧ step { loopStart with pc0 := 0x0400, hle := { loopStart.hle with hi := true } } = .refused (.hleStep 0x0400) :=
  ⟨by decide +kernel, by rfl⟩

/-- PAL_SEL picks sub-palette 1 for the cells (2, 0). -/
theorem test_row_palette : rowPalette Config.testVectors [(125, 2#2)] 0 = 1 := by decide +kernel

/-! ## The hypotheses of the obligations are met -/

/-- `JMP 0x0800` at 0x0800, inside a frame. -/
def loopState : State := vec.withFetchWord 24 0x000829

/-- The same machine outside a frame, with FRAME_TICKS = 10. -/
def shortFrame : State :=
  { loopState with cfg := { vec.cfg with frameTicks := 10 }, sched := { debt := 0, elapsed := 0, phase := .idle } }

theorem step_loopState : ∃ t, step loopState = .next t ∧ (t.sched.phase == .running) = true :=
  exists_next (by decide +kernel)

theorem witness_DecodeOfEncode : (Instr.dsHigh 11).wf = true ∧ (Instr.outs47 7).wf = true ∧ (Instr.pi 0xFFFF).wf = true := by
  decide

theorem witness_StepRunsDecodedInstruction :
    loopState.beginFrame.sched.phase = .running ∧ loopState.beginFrame.hlePredicate = false
    ∧ (Instr.jmp 0x0800).wf = true
    ∧ decode [loopState.memRead loopState.pc0, loopState.memRead (loopState.pc0 + 1), loopState.memRead (loopState.pc0 + 2)]
      = .ok (.jmp 0x0800, []) := ⟨rfl, by decide +kernel, rfl, rfl⟩

theorem witness_RunFrameLoop :
    loopState.sched.phase = .running
    ∧ (shortFrame.sched.phase = .idle ∧ 0 < (shortFrame.cfg.frameTicks : Int) + shortFrame.sched.debt)
    ∧ (∃ s : State, s = { shortFrame with sched := { debt := -10, elapsed := 0, phase := .idle } }
        ∧ s.sched.phase = .idle ∧ (s.cfg.frameTicks : Int) + s.sched.debt ≤ 0)
    ∧ (∃ s : State, s = { loopState with ticks := 99 } ∧ s.sched.phase = .running
        ∧ ((s.sched.elapsed + s.ticks : Nat) : Int) < (s.cfg.frameTicks : Int) + s.sched.debt)
    ∧ (∃ s : State, s = { loopState with ticks := 100 }
        ∧ (s.cfg.frameTicks : Int) + s.sched.debt ≤ ((s.sched.elapsed + s.ticks : Nat) : Int)) :=
  ⟨rfl, ⟨rfl, by decide +kernel⟩, ⟨_, rfl, rfl, by decide +kernel⟩, ⟨_, rfl, rfl, by decide +kernel⟩,
    ⟨_, rfl, by decide +kernel⟩⟩

theorem witness_HleStepsRefusedAndNoOther :
    HleOff loopState ∧ (∃ t, step loopState = .next t)
    ∧ ∃ s : State, s = { loopState with hle := { loopState.hle with clearRow := 63 } }
      ∧ s.beginFrame.sched.phase = .running ∧ s.hlePredicate = true :=
  ⟨rfl, step_loopState.imp fun _ h => h.1, _, rfl, rfl, rfl⟩

theorem witness_OnlyPortOperandsFault : 64 ≤ (0x40#8).toNat ∧ 64 ≤ (0xFF#8).toNat := by decide

theorem witness_StepKeepsStoresCanonical : StoresCanonical loopState ∧ ∃ t, step loopState = .next t :=
  ⟨by unfold StoresCanonical; decide +kernel, step_loopState.imp fun _ h => h.1⟩

theorem witness_StepKeepsSchedulerAndToneSound :
    SchedulerSound loopState ∧ PhaseInTable loopState ∧ ∃ t, step loopState = .next t :=
  ⟨by unfold SchedulerSound; decide +kernel, by unfold PhaseInTable; decide +kernel, step_loopState.imp fun _ h => h.1⟩

theorem witness_NoStepChangesTheLaunch : ∃ t, step loopState = .next t := step_loopState.imp fun _ h => h.1

theorem witness_MemoryBelowRamStartReadOnly :
    (∃ t, step loopState = .next t) ∧ 0x27FF < loopState.cfg.ramStart ∧ (0x27FF#16).toNat < vec.cfg.ramStart
    ∧ ¬ (vec.banked = true ∧ (0x27FF#16 : Addr) = vec.cfg.bankSelectAddr) :=
  ⟨step_loopState.imp fun _ h => h.1, by decide +kernel, by decide +kernel, by decide +kernel⟩

theorem witness_OnlyStoreWritesMemory : Instr.nop ≠ .st ∧ ∃ t, exec .nop vec = .next t := ⟨by decide, _, rfl⟩

theorem witness_OnlyTheTwoClassesWriteFlags :
    writesFlags .ei = false ∧ (∃ t, exec .ei vec = .next t)
    ∧ Instr.inc ≠ .ei ∧ Instr.inc ≠ .di ∧ Instr.inc ≠ .lrWJ ∧ ∃ t, exec .inc vec = .next t :=
  ⟨rfl, ⟨_, rfl⟩, by decide, by decide, by decide, _, rfl⟩

theorem witness_OnlyLisuAndLrISWriteIsarUpper :
    (∀ n, Instr.lrAI ≠ .lisu n) ∧ Instr.lrAI ≠ .lrISA ∧ ∃ t, exec .lrAI vec = .next t :=
  ⟨fun _ => Instr.noConfusion, by decide, _, rfl⟩

theorem witness_OnlyNamedInstructionsWritePc1AndDc1 :
    (∃ t, exec .pop vec = .next t) ∧ (∀ a, Instr.pop ≠ .pi a) ∧ Instr.pop ≠ .pk ∧ Instr.pop ≠ .lrPK ∧ Instr.pop ≠ .xdc :=
  ⟨⟨_, rfl⟩, fun _ => Instr.noConfusion, by decide, by decide, by decide⟩

theorem witness_TicksAreConserved :
    ∃ s t : State, s.sched.phase = .idle ∧ ledger 1 s = some (t, 22, 1) ∧ t.sched.phase = .idle := by
  obtain ⟨t, ht, hp⟩ := exists_next (r := step shortFrame)
    (p := fun t => t.sched.phase == .idle && t.ticks == 22) (by decide +kernel)
  simp only [Bool.and_eq_true, beq_iff_eq] at hp
  have hb : shortFrame.beginFrame.sched.phase = .running := by decide +kernel
  refine ⟨shortFrame, t, rfl, ?_, hp.1⟩
  simp [ledger, ht, hb, hp]

theorem witness_DrawingNeverInfluencesTheRun :
    ∃ s t : State, s ≠ t ∧ s.undrawn = t.undrawn := by
  refine ⟨vec, { vec with video := { vec.video with fb := [(8191, 3)] } }, fun h => ?_, rfl⟩
  have := congrArg (fun s : State => s.video.fb) h
  cases this

theorem witness_StoreAToKAndQBytes : (Instr.lrQLA, 15#6, 0x07#8) ∈
    [(Instr.lrKUA, 12#6, 0x04#8), (.lrKLA, 13#6, 0x05#8), (.lrQUA, 14#6, 0x06#8), (.lrQLA, 15#6, 0x07#8)] := by decide

/-- The scratchpad statements, at the ends of the field's ranges. -/
theorem witness_scratchpad_fields : (0#4).toNat ≤ 14 ∧ (7#4).toNat ≤ 14 ∧ (8#4).toNat ≤ 14 ∧ (11#4).toNat ≤ 14
    ∧ (12#4).toNat ≤ 14 ∧ (13#4).toNat ≤ 14 ∧ (14#4).toNat ≤ 14 := by decide

theorem witness_LoadAFromScratchField : (14#4).toNat ≤ 14 := by decide

theorem witness_StoreAToScratchField : (14#4).toNat ≤ 14 := by decide

theorem witness_DecrementScratchField : (14#4).toNat ≤ 14 ∧ ∃ k, k = fieldIndex 14 vec.isar := ⟨by decide, _, rfl⟩

theorem witness_AddScratchField : (14#4).toNat ≤ 14 ∧ ∃ b, b = vec.sp (fieldIndex 14 vec.isar) := ⟨by decide, _, rfl⟩

theorem witness_LogicScratchField : (14#4).toNat ≤ 14 ∧ ∃ b, b = vec.sp (fieldIndex 14 vec.isar) := ⟨by decide, _, rfl⟩

/-- A banked machine with bank 1 of two selected. -/
def banked : State := { vec with banked := true, bank := 3, image := List.replicate 0x4000 0x5A }

theorem witness_MemoryReadThroughBankWindow :
    ¬ (vec.banked = true ∧ 0x0800 ≤ (0x0800#16).toNat ∧ (0x0800#16).toNat < 0x0800 + 0x2000)
    ∧ ¬ (banked.banked = true ∧ 0x0800 ≤ (0x07FF#16).toNat ∧ (0x07FF#16).toNat < 0x0800 + 0x2000)
    ∧ ¬ (banked.banked = true ∧ 0x0800 ≤ (0x2800#16).toNat ∧ (0x2800#16).toNat < 0x0800 + 0x2000)
    ∧ banked.banked = true ∧ 0x0800 = banked.cfg.bankWindowBase.toNat
    ∧ 0x0800 ≤ (0x27FF#16).toNat ∧ (0x27FF#16).toNat < 0x0800 + 0x2000
    ∧ vec.cfg.valid = true ∧ 0x0801#16 ≠ vec.cfg.bankSelectAddr
    ∧ banked.image[banked.bank.toNat % (banked.cfg.multicartImageSize / 0x2000) * 0x2000
        + ((0x27FF#16).toNat - 0x0800)]? = some 0x5A := by
  refine ⟨by decide, by decide, by decide, rfl, rfl, by decide, by decide, by decide +kernel, by decide, ?_⟩
  have h : banked.bank.toNat % (banked.cfg.multicartImageSize / 0x2000) * 0x2000 + ((0x27FF#16).toNat - 0x0800)
      = 0x3FFF := by decide +kernel
  rw [h, show banked.image = List.replicate 0x4000 0x5A from rfl, List.getElem?_replicate]
  rfl

theorem witness_StoreToMemory :
    ¬ (vec.banked = true ∧ vec.dc0 = vec.cfg.bankSelectAddr) ∧ vec.dc0.toNat < vec.cfg.ramStart
    ∧ (0x2800#16 : Addr) ≠ vec.dc0
    ∧ ∃ s : State, s = { vec with dc0 := 0x2800 } ∧ s.cfg.ramStart ≤ s.dc0.toNat ∧ s.inBankWindow s.dc0 = false :=
  ⟨by decide +kernel, by decide +kernel, by decide +kernel, _, rfl, by decide +kernel, rfl⟩

/-- The bank-select clause: DC0 at BANK_SELECT_ADDR of a banked machine, and of one that is not banked. -/
theorem witness_StoreToMemory_bankSelect :
    (banked.banked = true ∧ State.dc0 { banked with dc0 := 0x0800 } = banked.cfg.bankSelectAddr)
    ∧ nextIs (exec .st { banked with dc0 := 0x0800, a := 0x5A }) (fun t => t.bank == 0x5A && t.mem == []) = true
    ∧ nextIs (exec .st { vec with dc0 := 0x0800, a := 0x5A }) (fun t => t.bank == 0 && t.mem == []) = true :=
  ⟨by decide +kernel, by decide +kernel, by decide +kernel⟩

/-- The last address whose write is dropped, RAM_START - 1. -/
theorem witness_StoreToMemory_lastDropped :
    (State.dc0 { vec with dc0 := 0x27FF }).toNat < vec.cfg.ramStart
    ∧ ¬ vec.cfg.ramStart ≤ (State.dc0 { vec with dc0 := 0x27FF }).toNat
    ∧ nextIs (exec .st { vec with dc0 := 0x27FF, a := 0x5A }) (fun t => t.mem == [] && t.dc0 == 0x2800) = true :=
  ⟨by decide +kernel, by decide +kernel, by decide +kernel⟩

theorem witness_AddAndCompareMemory : ∃ m, m = vec.memRead vec.dc0 := ⟨_, rfl⟩

theorem witness_LogicMemory : ∃ m, m = vec.memRead vec.dc0 := ⟨_, rfl⟩

theorem witness_DecimalAddOfBcd : 99 < 100 ∧ 0 < 100 := by decide

theorem witness_Shifts : (Instr.sl4, 0x15#8, BitVec.ofNat 8 (vec.a.toNat * 16)) ∈
    [(Instr.sr1, 0x12#8, BitVec.ofNat 8 (vec.a.toNat / 2)), (.sl1, 0x13#8, BitVec.ofNat 8 (vec.a.toNat * 2)),
      (.sr4, 0x14#8, BitVec.ofNat 8 (vec.a.toNat / 16)), (.sl4, 0x15#8, BitVec.ofNat 8 (vec.a.toNat * 16))] := by simp

theorem witness_ComplementLinkIncrement : (withAW 0 0x1D).flagC = false ∧ (withAW 0 0x02).flagC = true := ⟨rfl, rfl⟩

/-- BT and BF taken and not taken, BR7 at ISARL 6 and 7. -/
theorem witness_ConditionalBranches : (∃ (s : State) (t : BitVec 3),
      (t.getLsbD 0 && s.flagS || t.getLsbD 1 && s.flagC || t.getLsbD 2 && s.flagZ) = true)
    ∧ (∃ (s : State) (t : BitVec 3),
      (t.getLsbD 0 && s.flagS || t.getLsbD 1 && s.flagC || t.getLsbD 2 && s.flagZ) = false)
    ∧ (∃ (s : State) (t : BitVec 4), (t.getLsbD 0 && s.flagS || t.getLsbD 1 && s.flagC || t.getLsbD 2 && s.flagZ
      || t.getLsbD 3 && s.flagO) = false)
    ∧ (∃ (s : State) (t : BitVec 4), (t.getLsbD 0 && s.flagS || t.getLsbD 1 && s.flagC || t.getLsbD 2 && s.flagZ
      || t.getLsbD 3 && s.flagO) = true)
    ∧ (withSp 0 0x3E 0 0).isar.toNat % 8 ≠ 7 ∧ (withSp 0 0x3F 0 0).isar.toNat % 8 = 7 :=
  ⟨⟨withAW 0 0x4, 4, rfl⟩, ⟨withAW 0 0xF, 0, rfl⟩, ⟨withAW 0 0x10, 15, rfl⟩, ⟨withAW 0 0x8, 8, rfl⟩, by decide, by decide⟩

/-- Port 0 is a controller port of the vectors' machine, port 63 is not. -/
theorem witness_PortInput : (0 : PortNo) ∈ vec.cfg.controllerPorts ∧ (63 : PortNo) ∉ vec.cfg.controllerPorts
    ∧ (∃ v, v = (vec.latchAt 0 ||| if (0 : PortNo) ∈ vec.cfg.controllerPorts then Config.controllerDraw vec.draws else 0)) :=
  ⟨by decide, by decide, _, rfl⟩

/-- A plain port, and a port that carries the EEPROM's high control byte. -/
theorem witness_PortOutput :
    ((63 : PortNo) ∉ vec.cfg.eeLoPorts ∧ (63 : PortNo) ∉ vec.cfg.eeHiPorts ∧ (0x21 : PortNo) ∈ vec.cfg.eeHiPorts)
    ∧ Instr.outAa 0x3F = .outAa ((63 : PortNo).zeroExtend 8) ∧ Instr.outAa 0x21 = .outAa ((0x21 : PortNo).zeroExtend 8)
    ∧ ∃ q : BitVec 4, Instr.outs8F 15 = .outs q ∧ (15 : PortNo) = q.zeroExtend 6 ∧ 0xBF#8 = 0xB0 + q.zeroExtend 8 :=
  ⟨by decide, by decide, by decide, 15, by decide⟩

theorem witness_UndefinedOpcodesAreNoOps : (Instr.undef2D, 0x2D#8) ∈
    [(Instr.undef2D, 0x2D#8), (.undef2E, 0x2E#8), (.undef2F, 0x2F#8), (.undef3F, 0x3F#8), (.undef4F, 0x4F#8),
      (.undef5F, 0x5F#8), (.undefCF, 0xCF#8), (.undefDF, 0xDF#8), (.undefEF, 0xEF#8), (.undefFF, 0xFF#8)] := by decide

theorem witness_EepromPoll : eeDir Config.testVectors 0x8000 = .write ∧ eeDir Config.testVectors 0x7FFF = .read := by
  decide

theorem witness_EepromBitReadsBack :
    ∃ (s t : State) (p q : PortNo) (v x : Byte),
      s.cfg.valid = true ∧ t.cfg = s.cfg ∧ eeAddressed s.cfg p = true ∧ eeAddressed s.cfg q = true
      ∧ eeDir s.cfg (eeLoad s.cfg p v s.eeprom.state) = .write
      ∧ eeDir s.cfg (eeLoad s.cfg q x t.eeprom.state) = .read
      ∧ eeAddr s.cfg (eeLoad s.cfg q x t.eeprom.state) = eeAddr s.cfg (eeLoad s.cfg p v s.eeprom.state)
      ∧ Cells.read t.eeprom.mem (s.portWriteNotify p v).eeprom.addr.toNat
        = Cells.read (s.portWriteNotify p v).eeprom.mem (s.portWriteNotify p v).eeprom.addr.toNat :=
  ⟨vec, vec.portWriteNotify 0x21 0xC1, 0x21, 0x21, 0xC1, 0x01, by decide +kernel⟩

theorem witness_VideoWriterPorts :
    Config.testVectors.valid = true
    ∧ (63 : PortNo) ∉ [Config.testVectors.portColor, Config.testVectors.portX, Config.testVectors.portY,
        Config.testVectors.portArm]
    ∧ (∃ (d : Video) (v : Byte), d.arm = Config.testVectors.armFrom
        ∧ v &&& Config.testVectors.armMask = Config.testVectors.armTo)
    ∧ ∃ (d : Video) (v : Byte), ¬ (d.arm = Config.testVectors.armFrom
        ∧ v &&& Config.testVectors.armMask = Config.testVectors.armTo) :=
  ⟨by decide +kernel, by decide, ⟨{ vec.video with arm := 0x60 }, 0xC0, by decide⟩,
    ⟨{ vec.video with arm := 0x60 }, 0x20, by decide⟩⟩

theorem witness_PaletteResolution : 63 < 64 ∧ 127 < 128 := by decide

theorem witness_ToneSelect :
    ((0xC0#8).toNat / 64 ≠ vec.tone.select.toNat ∧ (0x3F#8).toNat / 64 = vec.tone.select.toNat)
    ∧ (4 : PortNo) ≠ vec.cfg.portTone := by decide

theorem witness_ToneTickEmitsOnePerThreshold :
    vec.tone.tacc + 9 * vec.cfg.tickStep < vec.cfg.sampleThreshold ∧ 0 < vec.cfg.sampleThreshold
    ∧ vec.cfg.sampleThreshold ≤ vec.tone.tacc + 10 * vec.cfg.tickStep
    ∧ ∀ n : BitVec 2, ∃ (t : Tone) (look1 look2 : ToneNum), t.select = n
      ∧ look1 = vec.cfg.toneTable.getD (t.phase * vec.cfg.stride1 % vec.cfg.tableLen) 0
      ∧ look2 = vec.cfg.toneTable.getD (t.phase * vec.cfg.stride2 % vec.cfg.tableLen) 0 :=
  ⟨by decide, by decide, by decide, fun n => ⟨{ vec.tone with select := n }, _, _, rfl, rfl, rfl⟩⟩

theorem witness_MachineResetValues : ∃ t, t = loopState.machineReset := ⟨_, rfl⟩

/-- A load that runs over the end of the address space. -/
theorem witness_LoadPlacesBytes : ∃ t, t = vec.load 0xFFFF [0x11, 0x22] ∧ Cells.read t.mem 0xFFFF = 0x11
    ∧ Cells.read t.mem 0x10000 = 0 := ⟨_, rfl, by decide +kernel, by decide +kernel⟩

/-- A multicart image of the vectors' size, and a cartridge one byte shorter. -/
theorem witness_LoadPlacesBytes_cartridge : (List.replicate 0x4000 (0x5A : Byte)).length = vec.cfg.multicartImageSize
    ∧ (List.replicate 0x3FFF (0x5A : Byte)).length ≠ vec.cfg.multicartImageSize :=
  ⟨by rw [List.length_replicate]; rfl, by rw [List.length_replicate]; decide⟩

/-- The low port, the high port, and a port that carries no control byte; ten address bits. -/
theorem witness_EepromControlWord : (0x20 : PortNo) ∈ vec.cfg.eeLoPorts
    ∧ ((0x21 : PortNo) ∉ vec.cfg.eeLoPorts ∧ (0x21 : PortNo) ∈ vec.cfg.eeHiPorts)
    ∧ ((63 : PortNo) ∉ vec.cfg.eeLoPorts ∧ (63 : PortNo) ∉ vec.cfg.eeHiPorts) ∧ vec.cfg.eeAddrBit.length = 10 := by
  decide

end Sys2Proof.Tests
end

section
/-! The state right after a power-on reset meets every invariant (70_reset_and_hazards.md R800). -/

namespace Sys2Proof.Machine

/-- Valid parameters have a tone table with an entry (60_exceptions.md R783). -/
theorem tableLen_pos_of_valid {c : Config} (h : c.valid = true) : 0 < c.tableLen := by
  have htone : c.toneValid = true := (Bool.and_eq_true_iff.mp h).2
  simp only [Config.toneValid, Bool.and_eq_true, decide_eq_true_eq] at htone
  obtain ⟨⟨htable, -⟩, -⟩ := htone
  exact htable

/-- A store with no entry is canonical, and reset leaves all three stores so. -/
theorem reset_storesCanonical : StoresCanonical State.reset :=
  ⟨reset_memory_wf, Cells.wf_nil 8192, Cells.wf_nil 1024⟩

/-- Between two frames nothing is asked of `elapsed`, and a scheduler that owes no ticks is within R742 (b). -/
theorem schedulerSound_of_idle {s : State} (hphase : s.sched.phase = .idle) (hdebt : s.sched.debt = 0) :
    SchedulerSound s := by
  refine ⟨fun hrunning => ?_, hdebt.le, .inl hdebt⟩
  rw [hphase] at hrunning
  cases hrunning

/-- The reset PHASE is 0, so this is that the machine's own tone table is not empty. -/
theorem reset_phaseInTable : PhaseInTable State.reset := tableLen_pos_of_valid parameters_valid

/-- Settles O12. The parameters are opaque: their validity comes from `parameters_valid`, not from evaluation. -/
theorem resetMeetsInvariants : Obligations.ResetMeetsInvariants :=
  ⟨reset_storesCanonical, schedulerSound_of_idle rfl rfl, reset_phaseInTable, rfl, parameters_valid⟩

end Sys2Proof.Machine
end

section
/-! What every next state of an answer meets, and the lemmas that read it off the ways an instruction ends. -/

namespace Sys2Proof.Machine

/-- Every next state that the answer can be meets P; a fault or a refusal has none. -/
def Ensures (r : Result) (P : State → Prop) : Prop := ∀ t, r = .next t → P t

theorem Ensures.next {t : State} {P : State → Prop} (h : P t) : Ensures (.next t) P := by
  intro u hu
  injection hu with hu
  exact hu ▸ h

theorem Ensures.done {op : Byte} {u : State} {P : State → Prop} (h : P (u.charge op false)) :
    Ensures (Machine.done op u) P := .next h

/-- IN and OUT: a port number without a latch ends in the fault, which has no next state. -/
theorem Ensures.ofPort {p : Byte} {r : Result} {s : State} {P : State → Prop} (h : Ensures r P) :
    Ensures (if p.toNat < 64 then r else raisePortOutOfRange p s) P := by
  split
  · exact h
  · intro t ht
    cases ht

end Sys2Proof.Machine
end

section
/-! Which instructions can change the machine outside the CPU: ST one byte of memory, the output instructions the
peripherals (20_memory.md R213, R231). -/

namespace Sys2Proof.Machine

/-- The same memory, bank, latches and peripherals. -/
def SameOutside (s t : State) : Prop :=
  t.mem = s.mem ∧ t.bank = s.bank ∧ t.latch = s.latch ∧ t.eeprom = s.eeprom ∧ t.video = s.video ∧ t.tone = s.tone

/-- The accesses that change something outside the CPU, by the instruction that makes them. -/
inductive Access (s : State) : Instr → State → Prop
  /-- The instruction writes nothing outside the CPU. -/
  | silent (i : Instr) : Access s i s
  /-- ST writes A at DC0. -/
  | store : Access s .st (s.memWrite s.dc0 s.a)
  /-- OUT and OUTS notify the peripherals of A. -/
  | output (i : Instr) (p : PortNo) : Access s i (s.portWriteNotify p s.a)

/-- Outside the CPU, an instruction is at most one access. -/
theorem exec_access (i : Instr) (s : State) :
    Ensures (exec i s) fun t => ∃ u, Access s i u ∧ SameOutside u t := by
  cases i
  case inAa => exact .ofPort (.done ⟨s, .silent _, rfl, rfl, rfl, rfl, rfl, rfl⟩)
  case outAa => exact .ofPort (.done ⟨_, .output _ _, rfl, rfl, rfl, rfl, rfl, rfl⟩)
  case outs01 | outs23 | outs47 | outs8F => exact .done ⟨_, .output _ _, rfl, rfl, rfl, rfl, rfl, rfl⟩
  case st => exact .done ⟨_, .store, rfl, rfl, rfl, rfl, rfl, rfl⟩
  all_goals exact .next ⟨s, .silent _, rfl, rfl, rfl, rfl, rfl, rfl⟩

/-- A fetch moves PC0 only. -/
theorem fetchInstr_sameOutside (s : State) : SameOutside s (fetchInstr s).2 := by
  rw [fetchInstr_eq]
  exact ⟨rfl, rfl, rfl, rfl, rfl, rfl⟩

/-- The opening of a frame leaves everything outside the CPU. -/
theorem State.beginFrame_sameOutside (s : State) : SameOutside s s.beginFrame := by
  rw [State.beginFrame_frame]
  exact ⟨rfl, rfl, rfl, rfl, rfl, rfl⟩

theorem State.beginFrame_cfg (s : State) : s.beginFrame.cfg = s.cfg := by rw [State.beginFrame_frame]

/-- A predicate that the four parts of a step keep (the opening of a frame, the fetch, the instruction, the end of
the turn) is an invariant of the step. -/
theorem step_keeps {P : State → Prop} (hbegin : ∀ s, P s → P s.beginFrame) (hfetch : ∀ s, P s → P (fetchInstr s).2)
    (hexec : ∀ i s t, exec i s = .next t → P s → P t) (hend : ∀ s, P s → P s.endTurn) {s t : State}
    (h : step s = .next t) (hs : P s) : P t := by
  rcases step_next_cases s t h with ⟨-, rfl⟩ | ⟨-, -, u, hu, rfl⟩
  · exact hbegin s hs
  · exact hend u (hexec _ _ u hu (hfetch _ (hbegin s hs)))

end Sys2Proof.Machine
end

section
/-! The sparse stores stay canonical (10_state.md R130, R140, R141). -/

namespace Sys2Proof.Machine

theorem StoresCanonical.of_sameOutside {s t : State} (h : SameOutside s t) (hs : StoresCanonical s) :
    StoresCanonical t := by
  obtain ⟨hmem, -, -, heeprom, hvideo, -⟩ := h
  unfold StoresCanonical
  rw [hmem, hvideo, heeprom]
  exact hs

theorem StoresCanonical.access {i : Instr} {s u : State} (h : Access s i u) (hs : StoresCanonical s) :
    StoresCanonical u := by
  obtain ⟨hmem, hfb, hee⟩ := hs
  cases h with
  | silent => exact ⟨hmem, hfb, hee⟩
  | store => exact ⟨State.memWrite_wf _ _ _ hmem, hfb, hee⟩
  | output _ p => exact ⟨hmem, videoReceive_wf _ _ _ _ hfb, eeReceive_wf _ _ _ _ hee⟩

theorem exec_storesCanonical (i : Instr) (s t : State) (h : exec i s = .next t) (hs : StoresCanonical s) :
    StoresCanonical t := by
  obtain ⟨u, hu, hut⟩ := exec_access i s t h
  exact (hs.access hu).of_sameOutside hut

/-- Settles O10. No write leaves its store's bounds: an address has 16 bits, a cell of FB is at most 63 * 128 + 127
and an EEPROM address has 10 bits. -/
theorem stepKeepsStoresCanonical : Obligations.StepKeepsStoresCanonical := fun _ _ hs h =>
  step_keeps (fun s => .of_sameOutside s.beginFrame_sameOutside) (fun s => .of_sameOutside (fetchInstr_sameOutside s))
    exec_storesCanonical (fun _ hu => hu) h hs

end Sys2Proof.Machine
end

section
/-! The scheduler and the tone generator stay sound (60_exceptions.md R741, R742 (b); 10_state.md R142). -/

namespace Sys2Proof.Machine

/-- An entry of a cost table, or the 0 past its end, is at most the maximum over a list that holds the table. -/
theorem getD_le_foldl_max (l : List Nat) (n : Nat) {costs : List Nat} (h : costs ⊆ l) :
    costs.getD n 0 ≤ l.foldl max 0 := by
  by_cases hn : n < costs.length
  · rw [List.getD_eq_getElem costs 0 hn, List.foldl_max]
    exact le_max_of_le_right (List.le_max?_getD_of_mem (h (List.getElem_mem hn)))
  · rw [List.getD_eq_default costs 0 (Nat.le_of_not_lt hn)]
    exact Nat.zero_le _

theorem cost_le_tMax (c : Config) (op : Byte) (taken : Bool) : cost c op taken ≤ tMax c := by
  refine le_max_of_le_right ?_
  cases taken with
  | false => exact getD_le_foldl_max _ _ (List.subset_append_left _ _)
  | true => exact getD_le_foldl_max _ _ (List.subset_append_right _ _)

/-- No instruction charges more than TMAX. -/
theorem exec_ticks_le {i : Instr} {s t : State} (h : exec i s = .next t) : t.ticks ≤ tMax s.cfg := by
  rcases exec_ticks h with ⟨op, taken, ht⟩ | ht <;> rw [ht]
  · exact cost_le_tMax _ _ _
  · exact le_max_left _ _

/-- The opening of a frame keeps the scheduler sound. A frame without a budget leaves DEBT <- FRAME_TICKS + DEBT,
which is at most 0 and no lower than DEBT was. -/
theorem State.beginFrame_schedulerSound (s : State) (h : SchedulerSound s) : SchedulerSound s.beginFrame := by
  have ⟨_, hle, hge⟩ := h
  cases hp : s.sched.phase with
  | running => rwa [s.beginFrame_of_running hp]
  | idle =>
    by_cases hb : 0 < budget s.cfg s.sched.debt
    · rw [s.beginFrame_of_budget hp hb]
      exact ⟨fun _ => hb, hle, hge⟩
    · have hb := not_lt.mp hb
      rw [s.beginFrame_of_no_budget hp hb]
      refine ⟨nofun, hb, ?_⟩
      simp only [budget] at hb ⊢
      omega

/-- The end of a turn keeps the scheduler sound: the test that ends the frame is met by the ticks of the one
instruction that ran since it last held, so the budget is overrun by less than TMAX. -/
theorem State.endTurn_schedulerSound (s : State) (h : SchedulerSound s)
    (hrunning : s.sched.phase = .running) (hticks : s.ticks ≤ tMax s.cfg) : SchedulerSound s.endTurn := by
  obtain ⟨htest, hle, hge⟩ := h
  have htest := htest hrunning
  unfold SchedulerSound
  rw [State.endTurn_sched]
  by_cases hb : ((s.sched.elapsed + s.ticks : Nat) : Int) < budget s.cfg s.sched.debt
  · rw [test_debt_of_running _ _ hb]
    exact ⟨fun _ => hb, hle, hge⟩
  · have hb := not_lt.mp hb
    rw [test_of_met _ _ hb]
    refine ⟨nofun, sub_nonpos.mpr hb, .inr ?_⟩
    have hcfg : s.endTurn.cfg = s.cfg := rfl
    simp only [hcfg]
    push_cast
    omega

/-- Soundness looks at the scheduler and the parameters only, which a launch keeps through its instructions. -/
theorem SchedulerSound.of_sameLaunch {s t : State} (h : SameLaunch s t) (hs : SchedulerSound s) :
    SchedulerSound t := by
  obtain ⟨hcfg, -, -, -, hsched, -⟩ := h
  unfold SchedulerSound
  rw [hcfg, hsched]
  exact hs

theorem step_schedulerSound {s t : State} (h : step s = .next t) (hs : SchedulerSound s) : SchedulerSound t := by
  have hbegin := s.beginFrame_schedulerSound hs
  rcases step_next_cases s t h with ⟨-, rfl⟩ | ⟨hrunning, -, u, hu, rfl⟩
  · exact hbegin
  · have hfetch := fetchInstr_sameLaunch s.beginFrame
    have hlaunch := exec_sameLaunch hu
    have ⟨hcfg, _, _, _, hsched, _⟩ := hlaunch
    have ⟨_, _, _, _, hsched', _⟩ := hfetch
    refine u.endTurn_schedulerSound ((hbegin.of_sameLaunch hfetch).of_sameLaunch hlaunch) ?_ ?_
    · rw [hsched, hsched', hrunning]
    · rw [hcfg]
      exact exec_ticks_le hu

theorem PhaseInTable.of_eq {s t : State} (hcfg : t.cfg = s.cfg) (htone : t.tone = s.tone) (hs : PhaseInTable s) :
    PhaseInTable t := by
  unfold PhaseInTable
  rw [hcfg, htone]
  exact hs

/-- A notify write leaves PHASE or restarts it at 0. -/
theorem PhaseInTable.access {i : Instr} {s u : State} (h : Access s i u) (hs : PhaseInTable s) : PhaseInTable u := by
  cases h with
  | silent => exact hs
  | store => exact hs
  | output _ p =>
    unfold PhaseInTable
    rw [State.portWriteNotify_tone, State.portWriteNotify_cfg]
    rcases toneReceive_cases s.cfg p s.a s.tone with ht | ht <;> rw [ht]
    · exact hs
    · exact Nat.zero_lt_of_lt hs

theorem Access.cfg {i : Instr} {s u : State} (h : Access s i u) : u.cfg = s.cfg := by
  cases h <;> rfl

theorem exec_phaseInTable (i : Instr) (s t : State) (h : exec i s = .next t) (hs : PhaseInTable s) :
    PhaseInTable t := by
  obtain ⟨u, hu, -, -, -, -, -, htone⟩ := exec_access i s t h
  obtain ⟨hcfg, -⟩ := exec_sameLaunch h
  exact (hs.access hu).of_eq (hcfg.trans hu.cfg.symm) htone

theorem step_phaseInTable {s t : State} (h : step s = .next t) (hs : PhaseInTable s) : PhaseInTable t := by
  refine step_keeps (fun s => ?_) (fun s => ?_) exec_phaseInTable (fun s => ?_) h hs
  · obtain ⟨-, -, -, -, -, htone⟩ := s.beginFrame_sameOutside
    exact .of_eq s.beginFrame_cfg htone
  · obtain ⟨-, -, -, -, -, htone⟩ := fetchInstr_sameOutside s
    obtain ⟨hcfg, -⟩ := fetchInstr_sameLaunch s
    exact .of_eq hcfg htone
  · exact fun hs => toneEmits_phase s.cfg _ _ hs

/-- Settles O11. Each invariant is kept on its own: neither needs the other, nor valid parameters. -/
theorem stepKeepsSchedulerAndToneSound : Obligations.StepKeepsSchedulerAndToneSound := fun _ _ h =>
  ⟨step_schedulerSound h, step_phaseInTable h⟩

end Sys2Proof.Machine
end

section
/-! No step changes what the host launched (70_reset_and_hazards.md R810). -/

namespace Sys2Proof.Machine

/-- The parameters, the image, the banked mode and the HLE state are those of s. -/
def LaunchedAs (s t : State) : Prop := t.cfg = s.cfg ∧ t.image = s.image ∧ t.banked = s.banked ∧ t.hle = s.hle

theorem LaunchedAs.of_sameLaunch {s t u : State} (h : SameLaunch t u) (hs : LaunchedAs s t) : LaunchedAs s u := by
  obtain ⟨hcfg, hbanked, himage, hhle, -⟩ := h
  unfold LaunchedAs
  rw [hcfg, himage, hbanked, hhle]
  exact hs

theorem State.beginFrame_launchedAs (s t : State) (h : LaunchedAs s t) : LaunchedAs s t.beginFrame := by
  rw [State.beginFrame_frame]
  exact h

/-- Settles O13, with the launch of the step's first state as the invariant. -/
theorem noStepChangesTheLaunch : Obligations.NoStepChangesTheLaunch := fun s _ h =>
  step_keeps (P := LaunchedAs s) s.beginFrame_launchedAs (fun t => .of_sameLaunch (fetchInstr_sameLaunch t))
    (fun _ _ _ h => .of_sameLaunch (exec_sameLaunch h)) (fun _ ht => ht) h ⟨rfl, rfl, rfl, rfl⟩

end Sys2Proof.Machine
end

section
/-! Which instructions write W, ISARU, PC1 and DC1 (10_state.md R108 to R115). -/

namespace Sys2Proof.Machine

/-- What an instruction can do to W: nothing, SetFlags in the two classes of R109, or one of the three instructions
that name ICB. -/
inductive WWrite (w : BitVec 5) : Instr → BitVec 5 → Prop
  /-- W is kept. -/
  | kept (i : Instr) : WWrite w i w
  /-- S, C, Z and O from a result; ICB is kept. -/
  | flags (i : Instr) (h : writesFlags i = true) (f : FlagSet) : WWrite w i (setFlags f w)
  /-- EI sets ICB. -/
  | ei : WWrite w .ei (w ||| 0x10#5)
  /-- DI clears ICB. -/
  | di : WWrite w .di (w &&& 0x0F#5)
  /-- LR W,J writes all five bits. -/
  | all (v : BitVec 5) : WWrite w .lrWJ v

/-- W after an instruction, by the instruction's class. -/
theorem exec_w (i : Instr) (s : State) : Ensures (exec i s) fun t => WWrite s.w i t.w := by
  cases i
  case ei => exact .done .ei
  case di => exact .done .di
  case lrWJ => exact .done (.all _)
  case inAa => exact .ofPort (.done (.flags _ rfl _))
  case outAa => exact .ofPort (.done (.kept _))
  case dsLow | dsHigh | dsS | dsI | dsD | asLow | asHigh | asS | asI | asD | asdLow | asdHigh | asdS | asdI | asdD
      | xsLow | xsHigh | xsS | xsI | xsD | nsLow | nsHigh | nsS | nsI | nsD | sr1 | sl1 | sr4 | sl4 | com | lnk | inc
      | ni | oi | xi | ai | ci | am | amd | nm | om | xm | cm | ins01 | ins23 | ins47 | ins8F =>
    exact .done (.flags _ rfl _)
  all_goals exact .next (.kept _)

/-- SetFlags keeps ICB. -/
theorem setFlags_icb (f : FlagSet) (w : BitVec 5) : (setFlags f w).getLsbD 4 = w.getLsbD 4 := by
  obtain ⟨-, -, -, -, hicb⟩ := packW_getLsbD (w.getLsbD 4) f.o f.z f.c f.s
  rw [setFlags_eq, hicb]

/-- EI and DI keep S, C, Z and O. -/
theorem icb_masks_keep_flags (w : BitVec 5) (k : Nat) (hk : k < 4) :
    (w ||| 0x10#5).getLsbD k = w.getLsbD k ∧ (w &&& 0x0F#5).getLsbD k = w.getLsbD k := by
  revert k w
  decide

/-- Outside the two classes and LR W,J, the bits of W below ICB are kept. -/
theorem WWrite.flag_of_not_writesFlags {i : Instr} {w v : BitVec 5} (h : WWrite w i v) (hi : writesFlags i = false)
    (k : Nat) (hk : k < 4) : v.getLsbD k = w.getLsbD k := by
  cases h with
  | kept => rfl
  | flags _ hflags => exact absurd hflags (by simp [hi])
  | ei => exact (icb_masks_keep_flags w k hk).1
  | di => exact (icb_masks_keep_flags w k hk).2
  | all => cases hi

/-- ICB is kept by all but the three instructions that name it. -/
theorem WWrite.icb {i : Instr} {w v : BitVec 5} (h : WWrite w i v) (hei : i ≠ .ei) (hdi : i ≠ .di)
    (hwj : i ≠ .lrWJ) : v.getLsbD 4 = w.getLsbD 4 := by
  cases h with
  | kept => rfl
  | flags => exact setFlags_icb _ _
  | ei => exact absurd rfl hei
  | di => exact absurd rfl hdi
  | all => exact absurd rfl hwj

/-- Settles O16. -/
theorem onlyTheTwoClassesWriteFlags : Obligations.OnlyTheTwoClassesWriteFlags := by
  intro i s t h
  have hw := exec_w i s t h
  refine ⟨fun hi => ?_, hw.icb⟩
  have hflag := hw.flag_of_not_writesFlags hi
  exact ⟨hflag 0 (by decide), hflag 1 (by decide), hflag 2 (by decide), hflag 3 (by decide)⟩

/-- LISL keeps ISARU. -/
theorem lisl_isarU (isar : SpIndex) (n : BitVec 3) :
    ((isar &&& 0x38#6) ||| n.zeroExtend 6).extractLsb' 3 3 = isar.extractLsb' 3 3 := by
  revert isar n
  decide

/-- ISARU is kept by all but LISU and LR IS,A. -/
theorem exec_isarU (i : Instr) (s : State) (hlisu : ∀ n, i ≠ .lisu n) (hisa : i ≠ .lrISA) :
    Ensures (exec i s) fun t => t.isarU = s.isarU := by
  cases i
  case lisu n => exact absurd rfl (hlisu n)
  case lrISA => exact absurd rfl hisa
  case lisl n => exact .done (lisl_isarU s.isar n)
  case inAa | outAa => exact .ofPort (.done rfl)
  case dsI | dsD | lrAI | lrAD | lrIA | lrDA | asI | asD | asdI | asdD | xsI | xsD | nsI | nsD =>
    exact .done (spPost_isarU _ _)
  all_goals exact .next rfl

/-- Settles O17. The post-modifications are `spPost_isarU`, and LISL is `lisl_isarU`. -/
theorem onlyLisuAndLrISWriteIsarUpper : Obligations.OnlyLisuAndLrISWriteIsarUpper := fun i s t hlisu hisa =>
  exec_isarU i s hlisu hisa t

/-- PC1 is kept by all but the three instructions that R113 names, and DC1 by all but XDC (R115). -/
theorem exec_pc1_dc1 (i : Instr) (s : State) : Ensures (exec i s) fun t =>
    (t.pc1 = s.pc1 ∨ (∃ a, i = .pi a) ∨ i = .pk ∨ i = .lrPK) ∧ (t.dc1 = s.dc1 ∨ i = .xdc) := by
  cases i
  case pi a => exact .next ⟨.inr (.inl ⟨a, rfl⟩), .inl rfl⟩
  case pk => exact .next ⟨.inr (.inr (.inl rfl)), .inl rfl⟩
  case lrPK => exact .next ⟨.inr (.inr (.inr rfl)), .inl rfl⟩
  case xdc => exact .next ⟨.inl rfl, .inr rfl⟩
  case inAa | outAa => exact .ofPort (.done ⟨.inl rfl, .inl rfl⟩)
  all_goals exact .next ⟨.inl rfl, .inl rfl⟩

/-- Settles O18. -/
theorem onlyNamedInstructionsWritePc1AndDc1 : Obligations.OnlyNamedInstructionsWritePc1AndDc1 := by
  intro i s t h
  obtain ⟨hpc1, hdc1⟩ := exec_pc1_dc1 i s t h
  refine ⟨fun hpi hpk hlrpk => ?_, fun hxdc => hdc1.resolve_right hxdc⟩
  rcases hpc1 with hkept | ⟨a, ha⟩ | hi | hi
  · exact hkept
  · exact absurd ha (hpi a)
  · exact absurd hi hpk
  · exact absurd hi hlrpk

end Sys2Proof.Machine
end

section
/-! A machine reset (70_reset_and_hazards.md R800 to R802). -/

namespace Sys2Proof.Machine

theorem State.machineReset_sp (s : State) (k : SpIndex) : s.machineReset.sp k = 0 :=
  Vector.getElem_replicate _

theorem State.machineReset_latchAt (s : State) (p : PortNo) : s.machineReset.latchAt p = 0 :=
  Vector.getElem_replicate _

/-- A machine reset clears RAM and keeps what is below RAM_START. -/
theorem State.machineReset_read (s : State) (a : Nat) :
    Cells.read s.machineReset.mem a = if a < s.cfg.ramStart then Cells.read s.mem a else 0 :=
  Cells.read_below _ _ _

/-- The power-on state is its own reset: it holds nothing that a reset would clear. -/
theorem reset_machineReset : State.reset.machineReset = State.reset := rfl

/-- Settles O58. -/
theorem machineResetValues : Obligations.MachineResetValues := by
  refine ⟨?_, reset_machineReset, rfl⟩
  rintro s t rfl
  exact ⟨rfl, rfl, rfl, rfl, rfl, rfl, rfl, s.machineReset_sp, s.machineReset_read, rfl, rfl, rfl,
    s.machineReset_latchAt, rfl, rfl, rfl, rfl, rfl, rfl, rfl⟩

end Sys2Proof.Machine
end

section
/-! Where an instruction stops (20_memory.md R234; 60_exceptions.md R701, R703). -/

namespace Sys2Proof.Machine

/-- An instruction goes on, or it is IN or OUT with a port number that has no latch. -/
theorem exec_next_or_portFault (i : Instr) (s : State) :
    (∃ t, exec i s = .next t)
      ∨ ∃ p : Byte, 64 ≤ p.toNat ∧ (i = .inAa p ∨ i = .outAa p) ∧ exec i s = .fault (.portOutOfRange p s.pc0) := by
  cases i
  case inAa p =>
    by_cases hp : p.toNat < 64
    · exact .inl ⟨_, execInAa_port p s hp⟩
    · exact .inr ⟨p, not_lt.mp hp, .inl rfl, execInAa_fault p s hp⟩
  case outAa p =>
    by_cases hp : p.toNat < 64
    · exact .inl ⟨_, execOutAa_port p s hp⟩
    · exact .inr ⟨p, not_lt.mp hp, .inr rfl, execOutAa_fault p s hp⟩
  all_goals exact .inl ⟨_, rfl⟩

/-- The faults, by instruction and operand. -/
theorem exec_fault_iff (i : Instr) (s : State) (f : Fault) :
    exec i s = .fault f ↔
      ∃ p : Byte, 64 ≤ p.toNat ∧ (i = .inAa p ∨ i = .outAa p) ∧ f = .portOutOfRange p s.pc0 := by
  constructor
  · intro h
    rcases exec_next_or_portFault i s with ⟨t, ht⟩ | ⟨p, hp, hi, hf⟩
    · rw [ht] at h
      cases h
    · rw [hf] at h
      injection h with h
      exact ⟨p, hp, hi, h.symm⟩
  · rintro ⟨p, hp, rfl | rfl, rfl⟩
    · exact execInAa_fault p s (not_lt.mpr hp)
    · exact execOutAa_fault p s (not_lt.mpr hp)

theorem exec_ne_refused (i : Instr) (s : State) (r : Refusal) : exec i s ≠ .refused r := by
  rcases exec_next_or_portFault i s with ⟨t, ht⟩ | ⟨p, -, -, hf⟩
  · rw [ht]
    nofun
  · rw [hf]
    nofun

/-- Settles O9. -/
theorem onlyPortOperandsFault : Obligations.OnlyPortOperandsFault :=
  ⟨fun i s => ⟨exec_fault_iff i s, exec_ne_refused i s⟩,
    fun s p hp => ⟨execInAa_fault p s (not_lt.mpr hp), execOutAa_fault p s (not_lt.mpr hp)⟩⟩

end Sys2Proof.Machine
end

section
/-! Reads and writes of memory through the bank window, and what an instruction can write (20_memory.md R202 to
R222). -/

namespace Sys2Proof.Machine

theorem State.inBankWindow_iff (s : State) (addr : Addr) :
    s.inBankWindow addr = true ↔ s.banked = true ∧ s.cfg.bankWindowBase.toNat ≤ addr.toNat
      ∧ addr.toNat < s.cfg.bankWindowBase.toNat + 0x2000 := by
  simp [State.inBankWindow, and_assoc]

/-- Inside the bank window a read is a read of IMAGE, where it has the byte. -/
theorem State.memRead_inside (s : State) (addr : Addr) (v : Byte) (h : s.inBankWindow addr = true)
    (hv : s.image[s.imageOffset addr]? = some v) : s.memRead addr = v := by
  rw [State.memRead, if_pos h, List.getD_eq_getElem?_getD, hv, Option.getD_some]

theorem nBanks_of_valid {c : Config} (h : c.valid = true) :
    1 ≤ c.nBanks ∧ c.multicartImageSize % 0x2000 = 0 := by
  simp only [Config.valid, Config.memoryValid, Bool.and_eq_true, decide_eq_true_eq, beq_iff_eq] at h
  obtain ⟨⟨⟨⟨⟨-, ⟨-, hbanks⟩, hwhole⟩, -⟩, -⟩, -⟩, -⟩ := h
  exact ⟨hbanks, hwhole⟩

/-- The condition under which a write switches the bank, as a Boolean and as a proposition. -/
theorem bankSelect_eq_false {s : State} {addr : Addr} (h : ¬ (s.banked = true ∧ addr = s.cfg.bankSelectAddr)) :
    (s.banked && addr == s.cfg.bankSelectAddr) = false := by
  simpa using h

/-- A write that is no bank select is at most one byte of MEM. -/
theorem State.memWrite_of_not_bankSelect (s : State) (addr : Addr) (v : Byte)
    (h : ¬ (s.banked = true ∧ addr = s.cfg.bankSelectAddr)) :
    s.memWrite addr v = { s with
      mem := if s.cfg.ramStart ≤ addr.toNat then Cells.write s.mem addr.toNat v else s.mem } := by
  rw [State.memWrite, bankSelect_eq_false h]
  rfl

/-- A dropped write. -/
theorem State.memWrite_dropped (s : State) (addr : Addr) (v : Byte) (hrom : addr.toNat < s.cfg.ramStart)
    (h : ¬ (s.banked = true ∧ addr = s.cfg.bankSelectAddr)) : s.memWrite addr v = s := by
  rw [s.memWrite_of_not_bankSelect addr v h, if_neg (not_le.mpr hrom)]

/-- A write elsewhere than the bank-select address does not look at BANKED. -/
theorem State.memWrite_unbanked (s : State) (addr : Addr) (v : Byte) (h : addr ≠ s.cfg.bankSelectAddr) :
    s.memWrite addr v = { State.memWrite { s with banked := false } addr v with banked := s.banked } := by
  rw [s.memWrite_of_not_bankSelect addr v (fun hsel => h hsel.2),
    State.memWrite_of_not_bankSelect { s with banked := false } addr v (fun hsel => h hsel.2)]

/-- Settles O30. -/
theorem memoryReadThroughBankWindow : Obligations.MemoryReadThroughBankWindow := by
  rintro s addr _ rfl
  refine ⟨fun hout => ?_, fun hbanked hlo hhi v hv => ?_, nBanks_of_valid, s.memWrite_unbanked addr⟩
  · exact s.memRead_outside addr (Bool.eq_false_iff.mpr (mt (s.inBankWindow_iff addr).mp hout))
  · exact s.memRead_inside addr v ((s.inBankWindow_iff addr).mpr ⟨hbanked, hlo, hhi⟩) hv

/-- The same parameters as s, and the same bytes below its RAM_START. -/
def SameRom (s t : State) : Prop :=
  t.cfg = s.cfg ∧ ∀ a, a < s.cfg.ramStart → Cells.read t.mem a = Cells.read s.mem a

theorem SameRom.of_sameOutside {s t u : State} (hcfg : u.cfg = t.cfg) (hmem : u.mem = t.mem) (h : SameRom s t) :
    SameRom s u := by
  unfold SameRom
  rw [hcfg, hmem]
  exact h

/-- ST writes no byte below RAM_START, and no other access writes MEM. -/
theorem SameRom.access {i : Instr} {s t u : State} (hu : Access t i u) (h : SameRom s t) : SameRom s u := by
  cases hu with
  | silent => exact h
  | output => exact h
  | store =>
    obtain ⟨hcfg, hrom⟩ := h
    refine ⟨hcfg, fun a ha => ?_⟩
    rw [State.read_memWrite, hcfg, if_neg (fun ⟨_, hram⟩ => absurd hram (not_le.mpr ha)), hrom a ha]

theorem exec_sameRom (s : State) (i : Instr) (t u : State) (h : exec i t = .next u) (ht : SameRom s t) :
    SameRom s u := by
  obtain ⟨v, hv, hmem, -⟩ := exec_access i t u h
  obtain ⟨hcfg, -⟩ := exec_sameLaunch h
  exact (ht.access hv).of_sameOutside (hcfg.trans hv.cfg.symm) hmem

/-- The bytes below RAM_START of the step's first state are an invariant of its four parts. -/
theorem step_sameRom {s t : State} (h : step s = .next t) : SameRom s t := by
  refine step_keeps (P := SameRom s) (fun u => ?_) (fun u => ?_) (exec_sameRom s) (fun _ hu => hu) h
    ⟨rfl, fun _ _ => rfl⟩
  · obtain ⟨hmem, -⟩ := u.beginFrame_sameOutside
    exact .of_sameOutside u.beginFrame_cfg hmem
  · obtain ⟨hmem, -⟩ := fetchInstr_sameOutside u
    obtain ⟨hcfg, -⟩ := fetchInstr_sameLaunch u
    exact .of_sameOutside hcfg hmem

/-- Settles O14. -/
theorem memoryBelowRamStartReadOnly : Obligations.MemoryBelowRamStartReadOnly :=
  ⟨fun _ _ h => (step_sameRom h).2, State.memWrite_dropped⟩

/-- No access but that of ST writes MEM or BANK. -/
theorem Access.mem_bank {i : Instr} {s u : State} (h : Access s i u) (hi : i ≠ .st) :
    u.mem = s.mem ∧ u.bank = s.bank := by
  cases h with
  | silent => exact ⟨rfl, rfl⟩
  | output => exact ⟨rfl, rfl⟩
  | store => exact absurd rfl hi

/-- Settles O15. A read looks at MEM, BANK and the launch only, and all three are kept. -/
theorem onlyStoreWritesMemory : Obligations.OnlyStoreWritesMemory := by
  intro i s t hi h
  obtain ⟨u, hu, hmem, hbank, -⟩ := exec_access i s t h
  obtain ⟨hmem', hbank'⟩ := hu.mem_bank hi
  obtain ⟨hcfg, hbanked, himage, -⟩ := exec_sameLaunch h
  have hmem := hmem.trans hmem'
  have hbank := hbank.trans hbank'
  exact ⟨hmem, hbank, State.memRead_congr hcfg hbanked himage hbank hmem⟩

/-- The state that ST goes on to. -/
def State.stored (s : State) : State := ((s.memWrite s.dc0 s.a).advanceDC).charge 0x17 false

theorem exec_st (s : State) : exec .st s = .next s.stored := rfl

theorem State.stored_frame (s : State) :
    s.stored = { s with
      mem := s.stored.mem, bank := s.stored.bank, dc0 := s.dc0 + 1, ticks := cost s.cfg 0x17 false } := rfl

theorem State.read_stored (s : State) (a : Nat) :
    Cells.read s.stored.mem a = if a = s.dc0.toNat ∧ s.cfg.ramStart ≤ a then s.a else Cells.read s.mem a :=
  s.read_memWrite s.dc0 s.a a

theorem State.stored_bank (s : State) :
    s.stored.bank = if s.banked = true ∧ s.dc0 = s.cfg.bankSelectAddr then s.a else s.bank := by
  change (s.memWrite s.dc0 s.a).bank = _
  simp

/-- A read after an ST that switches no bank. -/
theorem State.memRead_stored (s : State) (h : ¬ (s.banked = true ∧ s.dc0 = s.cfg.bankSelectAddr)) (b : Addr) :
    s.stored.memRead b =
      if b = s.dc0 ∧ s.cfg.ramStart ≤ s.dc0.toNat ∧ s.inBankWindow s.dc0 = false then s.a else s.memRead b :=
  s.memRead_memWrite s.dc0 b s.a (bankSelect_eq_false h)

/-- Settles O32. -/
theorem storeToMemory : Obligations.StoreToMemory := by
  refine ⟨rfl, fun s => ⟨s.stored, exec_st s, s.stored_frame, s.read_stored, s.stored_bank, fun hsel => ?_⟩⟩
  have hread := s.memRead_stored hsel
  refine ⟨fun b hb => ?_, fun hram hout => ?_, fun hrom => ?_⟩
  · rw [hread, if_neg fun h => hb h.1]
  · rw [hread, if_pos ⟨rfl, hram, hout⟩]
  · rw [hread, if_neg fun ⟨_, hram, _⟩ => absurd hram (not_le.mpr hrom)]

end Sys2Proof.Machine
end

section
/-! Loads (20_memory.md R215). -/

namespace Sys2Proof.Machine

/-- What MEM holds once a load has placed one byte; past the end of the address space it places none. -/
theorem State.read_placed (s : State) (base : Nat) (v : Byte) (a : Nat) :
    Cells.read ({ s with mem := if base < 0x10000 then Cells.write s.mem base v else s.mem } : State).mem a =
      if a = base ∧ a < 0x10000 then v else Cells.read s.mem a := by
  by_cases hbase : base < 0x10000
  · rw [if_pos hbase, Cells.read_write]
    exact if_congr ⟨fun h => ⟨h, h ▸ hbase⟩, And.left⟩ rfl rfl
  · rw [if_neg hbase, if_neg fun h : a = base ∧ a < 0x10000 => hbase (h.1 ▸ h.2)]

/-- What MEM holds after a load. The byte at a is the load's first one, or one of the load of the rest. -/
theorem State.read_load (buf : List Byte) (a : Nat) : ∀ (s : State) (base : Nat),
    Cells.read (s.load base buf).mem a =
      if base ≤ a ∧ a < base + buf.length ∧ a < 0x10000 then buf.getD (a - base) 0 else Cells.read s.mem a := by
  induction buf with
  | nil =>
    intro s base
    rw [if_neg (by simp only [List.length_nil]; omega)]
    rfl
  | cons v buf ih =>
    intro s base
    rw [State.load, ih, State.read_placed, List.length_cons]
    by_cases hrest : base + 1 ≤ a ∧ a < base + 1 + buf.length ∧ a < 0x10000
    · rw [if_pos hrest, if_pos (by omega), show a - base = a - (base + 1) + 1 by omega, List.getD_cons_succ]
    · rw [if_neg hrest]
      by_cases hfirst : a = base ∧ a < 0x10000
      · rw [if_pos hfirst, if_pos (by omega), hfirst.1, Nat.sub_self, List.getD_cons_zero]
      · rw [if_neg hfirst, if_neg (by omega)]

theorem State.loadCartridge_of_multicart (s : State) (buf : List Byte)
    (h : buf.length = s.cfg.multicartImageSize) :
    s.loadCartridge buf = { s with image := buf, banked := true, bank := 0 } := if_pos h

theorem State.loadCartridge_of_plain (s : State) (buf : List Byte) (h : buf.length ≠ s.cfg.multicartImageSize) :
    s.loadCartridge buf = s.load s.cfg.cartBase buf := if_neg h

/-- Settles O59. -/
theorem loadPlacesBytes : Obligations.LoadPlacesBytes := by
  refine ⟨?_, fun buf s => ⟨s.loadCartridge_of_multicart buf, s.loadCartridge_of_plain buf, rfl, rfl, rfl, rfl⟩⟩
  rintro buf s _ base rfl
  exact ⟨s.load_eq buf base, fun a => s.read_load buf a base⟩

end Sys2Proof.Machine
end

section
/-! The port instructions (45_io_system.md R650 to R653). -/

namespace Sys2Proof.Machine

/-- A port number below 64 as an operand byte: it is in range, and names that port. -/
theorem portByte_toNat_lt (p : PortNo) : (p.zeroExtend 8 : Byte).toNat < 64 := by
  revert p
  decide

theorem portByte_extract (p : PortNo) : (p.zeroExtend 8 : Byte).extractLsb' 0 6 = p := by
  revert p
  decide

/-- INS of a port, whichever of the four rows it stands in. -/
theorem exec_ins (p : BitVec 4) (s : State) :
    exec (.ins p) s = done (0xA0#8 + p.zeroExtend 8) (s.input (p.zeroExtend 6)) := by
  have hop : 0xA0#8 + p.zeroExtend 8 = 0xA0#8 ||| p.zeroExtend 8 := by
    revert p
    decide
  rw [hop]
  unfold Instr.ins
  split_ifs <;> rfl

/-- OUTS to a port, whichever of the four rows it stands in. -/
theorem exec_outs (p : BitVec 4) (s : State) :
    exec (.outs p) s = done (0xB0#8 + p.zeroExtend 8) (s.portWriteNotify (p.zeroExtend 6) s.a) := by
  have hop : 0xB0#8 + p.zeroExtend 8 = 0xB0#8 ||| p.zeroExtend 8 := by
    revert p
    decide
  rw [hop]
  unfold Instr.outs
  split_ifs <;> rfl

theorem encode_ins (p : BitVec 4) : encode (.ins p) = [0xA0#8 + p.zeroExtend 8] := by
  revert p
  decide

theorem encode_outs (p : BitVec 4) : encode (.outs p) = [0xB0#8 + p.zeroExtend 8] := by
  revert p
  decide

theorem State.portRead_eq (s : State) (p : PortNo) :
    s.portRead p = s.latchAt p ||| if p ∈ s.cfg.controllerPorts then Config.controllerDraw s.draws else 0 := by
  simp only [State.portRead, State.ctrl, List.contains_iff_mem]

/-- An input: everything it changes. -/
theorem State.input_eq (s : State) (p : PortNo) :
    s.input p = { s with
      a := s.portRead p, w := logicW s.flagICB (s.portRead p)
      draws := if p ∈ s.cfg.controllerPorts then s.draws + 1 else s.draws } := by
  rw [State.input, State.setAcc_logic8, State.afterPortRead]
  simp only [List.contains_iff_mem, State.flagICB]

/-- Settles O48. -/
theorem portInput : Obligations.PortInput := by
  refine ⟨?_, ?_⟩
  · rintro s p _ rfl
    refine ⟨rfl, ?_⟩
    have hexec : exec (.inAa (p.zeroExtend 8)) s = .next ((s.input p).charge 0x26#8 false) := by
      have h := execInAa_port (p.zeroExtend 8) s (portByte_toNat_lt p)
      rwa [portByte_extract] at h
    rw [hexec, State.input_eq, State.portRead_eq]
    rfl
  · rintro s p _ rfl
    refine ⟨encode_ins p, ?_⟩
    rw [exec_ins, State.input_eq, State.portRead_eq]
    rfl

/-- The state that an output of A to port p with opcode op goes on to. -/
def State.output (s : State) (op : Byte) (p : PortNo) : State := (s.portWriteNotify p s.a).charge op false

theorem State.output_frame (s : State) (op : Byte) (p : PortNo) :
    s.output op p = { s with
      latch := (s.output op p).latch
      eeprom := eeReceive s.cfg p s.a s.eeprom
      video := videoReceive s.cfg p s.a s.video
      tone := toneReceive s.cfg p s.a s.tone
      ticks := cost s.cfg op false } := rfl

/-- The latches after an output; the bytes of EE_STATE are those of the EEPROM that the output leaves. -/
theorem State.latchAt_output (s : State) (op : Byte) (p q : PortNo) :
    (s.output op p).latchAt q =
      if eeAddressed s.cfg p = true ∧ q = s.cfg.eeRbHi then highByte (s.output op p).eeprom.state
      else if eeAddressed s.cfg p = true ∧ q = s.cfg.eeRbLo then lowByte (s.output op p).eeprom.state
      else if q = p then s.a else s.latchAt q := s.latchAt_portWriteNotify p q s.a

theorem eeAddressed_iff (c : Config) (p : PortNo) :
    eeAddressed c p = true ↔ p ∈ c.eeLoPorts ∨ p ∈ c.eeHiPorts := by
  simp [eeAddressed]

/-- An output to a port without a control byte writes its own latch alone, and leaves the EEPROM. -/
theorem State.output_of_not_addressed (s : State) (op : Byte) (p : PortNo) (h : eeAddressed s.cfg p = false) :
    (s.output op p).eeprom = s.eeprom
      ∧ ∀ q, (s.output op p).latchAt q = if q = p then s.a else s.latchAt q := by
  refine ⟨eeReceive_of_not_addressed _ _ _ _ h, fun q => ?_⟩
  simp only [State.latchAt_output, h, Bool.false_eq_true, false_and, if_false]

/-- After a poll the two read-back latches hold EE_STATE, whatever the output itself wrote. -/
theorem State.output_of_addressed (s : State) (op : Byte) (p : PortNo) (h : eeAddressed s.cfg p = true)
    (q : PortNo) :
    (s.output op p).latchAt q =
      if q = s.cfg.eeRbHi then BitVec.ofNat 8 ((s.output op p).eeprom.state.toNat / 256)
      else if q = s.cfg.eeRbLo then BitVec.ofNat 8 (s.output op p).eeprom.state.toNat
      else if q = p then s.a else s.latchAt q := by
  simp only [State.latchAt_output, h, true_and, highByte_eq_div, lowByte_eq_ofNat]

/-- Settles O49. -/
theorem portOutput : Obligations.PortOutput := by
  intro s i p op hi
  have hexec : (encode i).head? = some op ∧ exec i s = .next (s.output op p) := by
    rcases hi with ⟨rfl, rfl⟩ | ⟨q, rfl, rfl, rfl⟩
    · have h := execOutAa_port (p.zeroExtend 8) s (portByte_toNat_lt p)
      rw [portByte_extract] at h
      exact ⟨rfl, h⟩
    · rw [encode_outs, exec_outs]
      exact ⟨rfl, rfl⟩
  obtain ⟨hop, hnext⟩ := hexec
  refine ⟨hop, s.output op p, hnext, s.output_frame op p, fun hlo hhi => ?_, fun h => ?_⟩
  · refine s.output_of_not_addressed op p (Bool.eq_false_iff.mpr fun h => ?_)
    exact ((eeAddressed_iff s.cfg p).mp h).elim hlo hhi
  · exact s.output_of_addressed op p ((eeAddressed_iff s.cfg p).mpr h)

end Sys2Proof.Machine
end

section
/-! What the decoder and the encoder do, said once for all instructions (30_encoding.md R300 to R321): the opcode byte
picks the row, and the bytes after it only fill the row's operand fields. -/

namespace Sys2Proof

/-- The instruction with its operand fields of a byte or an address taken from b1 and b2 (30_encoding.md R305). -/
def Instr.withOperands (b1 b2 : Byte) : Instr → Instr
  | .li _ => .li b1
  | .ni _ => .ni b1
  | .oi _ => .oi b1
  | .xi _ => .xi b1
  | .ai _ => .ai b1
  | .ci _ => .ci b1
  | .inAa _ => .inAa b1
  | .outAa _ => .outAa b1
  | .pi _ => .pi (joinBytes b1 b2)
  | .jmp _ => .jmp (joinBytes b1 b2)
  | .dci _ => .dci (joinBytes b1 b2)
  | .bt t _ => .bt t b1
  | .br7 _ => .br7 b1
  | .bf t _ => .bf t b1
  | i => i

/-! The operand fields decide neither the opcode byte, nor the row, nor well-formedness. -/

@[simp] theorem opcode_withOperands (i : Instr) (b1 b2 : Byte) : opcode (i.withOperands b1 b2) = opcode i := by
  cases i <;> rfl

@[simp] theorem row_withOperands (i : Instr) (b1 b2 : Byte) : (i.withOperands b1 b2).row = i.row := by
  cases i <;> rfl

@[simp] theorem wf_withOperands (i : Instr) (b1 b2 : Byte) : (i.withOperands b1 b2).wf = i.wf := by
  cases i <;> rfl

@[simp] theorem withOperands_withOperands (i : Instr) (b1 b2 c1 c2 : Byte) :
    (i.withOperands b1 b2).withOperands c1 c2 = i.withOperands c1 c2 := by
  cases i <;> rfl

/-- The operand bytes are those the fields were taken from, as many as the instruction has. -/
theorem operandBytes_withOperands (i : Instr) (b1 b2 : Byte) :
    operandBytes (i.withOperands b1 b2) = [b1, b2].take (operandBytes i).length := by
  cases i
  case pi | jmp | dci =>
    simp [Instr.withOperands, operandBytes, Machine.highByte_joinBytes, Machine.lowByte_joinBytes]
  all_goals rfl

/-- An instruction is unchanged when its operands are taken from its own operand bytes, whatever follows them. -/
theorem withOperands_operandBytes (i : Instr) (rest : List Byte) :
    i.withOperands ((operandBytes i ++ rest).getD 0 0) ((operandBytes i ++ rest).getD 1 0) = i := by
  cases i
  case pi addr => exact congrArg Instr.pi (Machine.joinBytes_high_low addr)
  case jmp addr => exact congrArg Instr.jmp (Machine.joinBytes_high_low addr)
  case dci addr => exact congrArg Instr.dci (Machine.joinBytes_high_low addr)
  all_goals rfl

/-- Bytes past the operand bytes are not looked at. -/
theorem withOperands_congr (i : Instr) {b1 b2 c1 c2 : Byte}
    (h : [b1, b2].take (operandBytes i).length = [c1, c2].take (operandBytes i).length) :
    i.withOperands b1 b2 = i.withOperands c1 c2 := by
  have hself (b1 b2 : Byte) : i.withOperands (([b1, b2].take (operandBytes i).length ++ []).getD 0 0)
      (([b1, b2].take (operandBytes i).length ++ []).getD 1 0) = i.withOperands b1 b2 := by
    rw [← operandBytes_withOperands, ← withOperands_withOperands i b1 b2, withOperands_operandBytes]
  rw [← hself b1 b2, h, hself c1 c2]

/-- What holds of the six kinds of instruction in a scratchpad row holds of the whole row (30_encoding.md R310). -/
theorem scratchRow_all {P : Instr → Prop} {low high : BitVec 4 → Instr} {s i d undef : Instr}
    (hlow : ∀ r, P (low r)) (hhigh : ∀ r, P (high r)) (hs : P s) (hi : P i) (hd : P d) (hundef : P undef)
    (r : BitVec 4) : P (scratchRow low high s i d undef r) := by
  unfold scratchRow
  split_ifs
  · exact hlow r
  · exact hhigh r
  · exact hs
  · exact hi
  · exact hd
  · exact hundef

/-- The bytes after the opcode byte fill the operand fields of the instruction that the opcode byte selects. -/
theorem decodeOpcode_eq (op b1 b2 : Byte) :
    decodeOpcode op b1 b2 = (decodeOpcode op 0 0).withOperands b1 b2 := by
  unfold decodeOpcode
  split
  case h_1 => unfold decodeRow0; split <;> rfl
  case h_2 => unfold decodeRow1; split <;> rfl
  case h_3 => unfold decodeRow2; split <;> rfl
  case h_9 => unfold decodeRow8; split <;> rfl
  case h_7 => split <;> rfl
  case h_8 | h_10 => rfl
  case h_11 => unfold Instr.ins; split_ifs <;> rfl
  case h_12 => unfold Instr.outs; split_ifs <;> rfl
  case h_4 | h_5 | h_6 | h_13 | h_14 | h_15 | h_16 =>
    exact scratchRow_all (P := fun i => i = i.withOperands b1 b2) (fun _ => rfl) (fun _ => rfl) rfl rfl rfl rfl _

/-! What the opcode byte alone decides: the opcode map (30_encoding.md R320), checked byte by byte. -/

@[simp] theorem opcode_decodeOpcode (op b1 b2 : Byte) : opcode (decodeOpcode op b1 b2) = op := by
  have h : ∀ op, opcode (decodeOpcode op 0 0) = op := by decide +kernel
  rw [decodeOpcode_eq, opcode_withOperands, h]

theorem wf_decodeOpcode (op b1 b2 : Byte) : (decodeOpcode op b1 b2).wf = true := by
  have h : ∀ op, (decodeOpcode op 0 0).wf = true := by decide +kernel
  rw [decodeOpcode_eq, wf_withOperands, h]

theorem operandCount_cases (op : Byte) : operandCount op = 0 ∨ operandCount op = 1 ∨ operandCount op = 2 := by
  unfold operandCount
  split_ifs <;> simp

/-- The length of the selected instruction is the one the opcode byte announces (30_encoding.md R300). -/
theorem length_operandBytes_decodeOpcode (op : Byte) :
    (operandBytes (decodeOpcode op 0 0)).length = operandCount op := by
  revert op
  decide +kernel

/-- The operand bytes of a decoded instruction are the bytes it was decoded from. -/
theorem operandBytes_decodeOpcode (op b1 b2 : Byte) :
    operandBytes (decodeOpcode op b1 b2) = [b1, b2].take (operandCount op) := by
  rw [decodeOpcode_eq, operandBytes_withOperands, length_operandBytes_decodeOpcode]

/-- A decoded instruction has the opcode byte and the operand bytes that it was decoded from. -/
theorem encode_decodeOpcode (op b1 b2 : Byte) :
    encode (decodeOpcode op b1 b2) = op :: [b1, b2].take (operandCount op) := by
  rw [encode, opcode_decodeOpcode, operandBytes_decodeOpcode]

/-- The decoder does not look at bytes past the ones the opcode takes (30_encoding.md R303). -/
theorem decodeOpcode_congr {op b1 b2 c1 c2 : Byte}
    (h : [b1, b2].take (operandCount op) = [c1, c2].take (operandCount op)) :
    decodeOpcode op b1 b2 = decodeOpcode op c1 c2 := by
  rw [decodeOpcode_eq op b1, decodeOpcode_eq op c1]
  apply withOperands_congr
  rwa [length_operandBytes_decodeOpcode]

/-- When the operand bytes are there, the decoder takes them and no more. -/
theorem decode_cons {op : Byte} {bytes : List Byte} (h : operandCount op ≤ bytes.length) :
    decode (op :: bytes) =
      .ok (decodeOpcode op (bytes.getD 0 0) (bytes.getD 1 0), bytes.drop (operandCount op)) := by
  rcases operandCount_cases op with hc | hc | hc
  · have hop : decodeOpcode op 0 0 = decodeOpcode op (bytes.getD 0 0) (bytes.getD 1 0) :=
      decodeOpcode_congr (by rw [hc]; rfl)
    simp only [decode, hc, hop, List.drop_zero]
  · match bytes with
    | [] => simp [hc] at h
    | b1 :: rest =>
      have hop : decodeOpcode op b1 0 = decodeOpcode op b1 (rest.getD 0 0) := decodeOpcode_congr (by rw [hc]; rfl)
      simp only [decode, hc, hop]
      rfl
  · match bytes with
    | [] | [_] => simp [hc] at h
    | b1 :: b2 :: rest =>
      simp only [decode, hc]
      rfl

/-- Three bytes are enough for every opcode. -/
theorem decode_three (op b1 b2 : Byte) (rest : List Byte) :
    decode (op :: b1 :: b2 :: rest) =
      .ok (decodeOpcode op b1 b2, (b1 :: b2 :: rest).drop (operandCount op)) := by
  refine decode_cons ?_
  rcases operandCount_cases op with hc | hc | hc <;> simp [hc]

/-- The opcode byte of a well-formed instruction selects that instruction, its operand fields aside. -/
theorem decodeOpcode_opcode (i : Instr) (h : i.wf = true) :
    decodeOpcode (opcode i) 0 0 = i.withOperands 0 0 := by
  revert h
  cases i
  case dsLow r | dsHigh r | lrALow r | lrAHigh r | lrLowA r | lrHighA r | asLow r | asHigh r | asdLow r | asdHigh r
      | xsLow r | xsHigh r | nsLow r | nsHigh r =>
    revert r
    decide
  case ins01 p | ins23 p | ins47 p | ins8F p | outs01 p | outs23 p | outs47 p | outs8F p =>
    revert p
    decide
  case lisu n | lisl n | lis n =>
    revert n
    decide
  case bt t n =>
    have h : ∀ t : BitVec 3, decodeOpcode (0x80#8 ||| t.zeroExtend 8) 0 0 = .bt t 0 := by decide
    exact fun _ => h t
  case bf t n =>
    have h : ∀ t : BitVec 4, decodeOpcode (0x90#8 ||| t.zeroExtend 8) 0 0 = .bf t 0 := by decide
    exact fun _ => h t
  all_goals
    intro _
    rw [opcode]
    rfl

/-- Every well-formed instruction is as long as its opcode byte announces: the statement that
Sys2Proof/Laws/PerInstr.lean makes constructor by constructor, read off the opcode map at once. -/
theorem encodedLength (i : Instr) : Laws.EncodedLength.Statement i := by
  intro h
  rw [← length_operandBytes_decodeOpcode, decodeOpcode_opcode i h, operandBytes_withOperands, List.length_take]
  cases i <;> rfl

/-- Settles O2: the opcode byte selects the instruction, and its operand bytes fill in its fields. -/
theorem decodeOfEncode : Obligations.DecodeOfEncode := by
  intro i rest hwf
  have hcount := (encodedLength i hwf).symm
  have hle : operandCount (opcode i) ≤ (operandBytes i ++ rest).length := by
    rw [hcount, List.length_append]
    exact Nat.le_add_right _ _
  rw [encode, List.cons_append, decode_cons hle, decodeOpcode_eq, decodeOpcode_opcode i hwf,
    withOperands_withOperands, withOperands_operandBytes, hcount, List.drop_left]

/-- Settles O3: the operand bytes that the decoder took and the bytes it left are the bytes given. -/
theorem encodeOfDecode : Obligations.EncodeOfDecode := by
  intro op b1 b2 rest
  refine ⟨_, _, decode_three op b1 b2 rest, wf_decodeOpcode op b1 b2, ?_⟩
  rw [encode_decodeOpcode]
  rcases operandCount_cases op with hc | hc | hc <;> rw [hc] <;> rfl

/-- Settles O1: the decoder is run on each word. -/
theorem sampleWordsDecode : Obligations.SampleWordsDecode :=
  ⟨rfl, rfl, rfl, rfl, rfl, rfl, rfl, rfl, rfl, rfl, rfl, rfl, rfl⟩

/-- Settles O4: the row is the opcode byte's alone, and the 256 bytes are checked against the table. -/
theorem everyByteSelectsOneRow : Obligations.EveryByteSelectsOneRow := by
  intro op b1 b2
  have h : ∀ op, matchingRows op = [(decodeOpcode op 0 0).row] := by decide +kernel
  rw [decodeOpcode_eq, row_withOperands, h]

end Sys2Proof
end

section
/-! The step runs the instruction that the decoder reads at PC0 (30_encoding.md R301, R303). -/

namespace Sys2Proof.Machine

theorem length_decodeOpcode (op b1 b2 : Byte) : (decodeOpcode op b1 b2).length = 1 + operandCount op := by
  rw [Instr.length, encode_decodeOpcode, List.length_cons, List.length_take, Nat.add_comm]
  rcases operandCount_cases op with hc | hc | hc <;> rw [hc] <;> rfl

/-- A fetch is the decoder on the three bytes at PC0, and moves PC0 past the bytes of what it reads. -/
theorem fetchInstr_of_decode {s : State} {i : Instr} {rest : List Byte}
    (h : decode [s.memRead s.pc0, s.memRead (s.pc0 + 1), s.memRead (s.pc0 + 2)] = .ok (i, rest)) :
    fetchInstr s = (i, { s with pc0 := s.pc0 + BitVec.ofNat 16 i.length }) := by
  rw [decode_three] at h
  injection h with h
  injection h with hi
  have hpc : s.pc0 + 1 + BitVec.ofNat 16 (operandCount (s.memRead s.pc0)) = s.pc0 + BitVec.ofNat 16 i.length := by
    rw [← hi, length_decodeOpcode, BitVec.add_assoc, BitVec.ofNat_add]
    rfl
  rw [fetchInstr_eq, hpc, ← hi]
  congr 1
  apply decodeOpcode_congr
  rcases operandCount_cases (s.memRead s.pc0) with hc | hc | hc <;> rw [hc] <;> rfl

/-- The opening of a frame leaves PC0 and everything that a read of memory looks at. -/
theorem State.beginFrame_pc0 (s : State) : s.beginFrame.pc0 = s.pc0 := by rw [State.beginFrame_frame]

theorem State.beginFrame_memRead (s : State) (addr : Addr) : s.beginFrame.memRead addr = s.memRead addr := by
  rw [State.beginFrame_frame]
  exact State.memRead_congr rfl rfl rfl rfl rfl addr

/-- Settles O5. The decoder answers well-formed instructions only, so `i.wf` is not used. -/
theorem stepRunsDecodedInstruction : Obligations.StepRunsDecodedInstruction := by
  intro s i rest hrunning hhle _ hdecode
  rw [← s.beginFrame_pc0, ← s.beginFrame_memRead, ← s.beginFrame_memRead, ← s.beginFrame_memRead] at hdecode
  have hfetch := fetchInstr_of_decode hdecode
  rw [s.beginFrame_pc0] at hfetch
  rcases step_cases s with ⟨hidle, -⟩ | ⟨-, htrue, -⟩ | ⟨-, -, hstep⟩
  · rw [hrunning] at hidle
    cases hidle
  · rw [hhle] at htrue
    cases htrue
  · rw [hfetch] at hstep
    exact hstep

end Sys2Proof.Machine
end

section
/-! The register-transfer instructions (41_register_transfer.md R400 to R425): what each operand is in the spec's terms,
and the whole next state of each instruction. -/

namespace Sys2Proof.Machine

/-! Loads of A and of DC0 -/

/-- Settles O21: the four read R[12] to R[15]. -/
theorem loadAFromKAndQBytes : Obligations.LoadAFromKAndQBytes :=
  ⟨rfl, rfl, rfl, rfl, fun _ => ⟨rfl, rfl, rfl, rfl⟩⟩

/-- An opcode row and a field in the bits that the row leaves 0: the byte they make is their sum (30_encoding.md
R304). -/
theorem opcodeRow_or_field {n : Nat} (row : Byte) (f : BitVec n) (h : row.setWidth n = 0) :
    row ||| f.zeroExtend 8 = row + f.zeroExtend 8 := by
  refine (BitVec.add_eq_or_of_and_eq_zero _ _ (BitVec.eq_of_getLsbD_eq fun k hk => ?_)).symm
  rw [BitVec.getLsbD_and, BitVec.getLsbD_zero]
  by_cases hn : k < n
  · have hrow : row.getLsbD k = false := by simpa [hn] using congrArg (BitVec.getLsbD · k) h
    rw [hrow, Bool.false_and]
  · simp [f.getLsbD_of_ge k (not_lt.mp hn)]

theorem encode_lis (i : BitVec 4) : encode (.lis i) = [0x70#8 + i.zeroExtend 8] :=
  congrArg (fun op => [op]) (opcodeRow_or_field 0x70#8 i rfl)

theorem exec_lis (i : BitVec 4) (s : State) :
    exec (.lis i) s = done (0x70#8 + i.zeroExtend 8) (s.loadA (i.zeroExtend 8)) :=
  congrArg (fun op => done op (s.loadA (i.zeroExtend 8))) (opcodeRow_or_field 0x70#8 i rfl)

/-- DCI's address bytes are those its address is written from (30_encoding.md R305). -/
theorem encode_dci (hh ll : Byte) : encode (.dci (hh ++ ll)) = [0x2A#8, hh, ll] := by
  change [0x2A#8, highByte (joinBytes hh ll), lowByte (joinBytes hh ll)] = _
  rw [highByte_joinBytes, lowByte_joinBytes]

/-- Settles O28. -/
theorem loadConstants : Obligations.LoadConstants := by
  refine ⟨fun s i => ⟨encode_lis i, ?_⟩, fun s ii => ⟨rfl, rfl⟩, fun s hh ll => ⟨encode_dci hh ll, rfl⟩⟩
  rw [exec_lis, BitVec.ofNat_toNat]
  rfl

/-- A sign-extended byte added to an address is the sum of the integers modulo 2^16 (R425). -/
theorem add_signExtend_eq_ofInt (v : Addr) (b : Byte) :
    v + b.signExtend 16 = BitVec.ofInt 16 ((v.toNat : Int) + b.toInt) := by
  rw [BitVec.ofInt_add, BitVec.ofInt_natCast, BitVec.ofNat_toNat, BitVec.setWidth_eq]
  rfl

/-- Settles O29. -/
theorem dataCounterExchangeAndAdd : Obligations.DataCounterExchangeAndAdd := by
  refine ⟨rfl, rfl, fun s => ⟨rfl, ?_⟩⟩
  rw [← add_signExtend_eq_ofInt]
  rfl

/-! Writes of the scratchpad -/

/-- An instruction that writes one scratchpad byte: where it goes on, and the 64 bytes there. -/
theorem done_setSp (s : State) (op : Byte) (k : SpIndex) (v : Byte) :
    ∃ t, done op (s.setSp k v) = .next t ∧ t = { s with scratch := t.scratch, ticks := cost s.cfg op false }
      ∧ ∀ j, t.sp j = if j = k then v else s.sp j :=
  ⟨(s.setSp k v).charge op false, rfl, rfl, fun j => s.sp_setSp k j v⟩

/-- Settles O22: each of the four is one write of A. -/
theorem storeAToKAndQBytes : Obligations.StoreAToKAndQBytes := by
  refine ⟨rfl, rfl, rfl, rfl, fun s i k op hi => ?_⟩
  have hexec : exec i s = done op (s.setSp k s.a) := by
    simp only [List.mem_cons, List.not_mem_nil, or_false, Prod.mk.injEq] at hi
    rcases hi with ⟨rfl, rfl, rfl⟩ | ⟨rfl, rfl, rfl⟩ | ⟨rfl, rfl, rfl⟩ | ⟨rfl, rfl, rfl⟩ <;> rfl
  rw [hexec]
  exact done_setSp s op k s.a

/-- The low five bits of a byte, flag by flag (R415). -/
theorem extractLsb'_five_eq_packW (b : Byte) :
    b.extractLsb' 0 5 =
      packW (b.getLsbD 4) (b.getLsbD 3) (b.getLsbD 2) (b.getLsbD 1) (b.getLsbD 0) := by
  revert b
  decide

/-- Settles O25. -/
theorem statusThroughJ : Obligations.StatusThroughJ := by
  refine ⟨rfl, rfl, fun s => ?_, fun s => ?_⟩
  · rw [← extractLsb'_five_eq_packW]
    rfl
  · rw [BitVec.ofNat_toNat]
    exact done_setSp s 0x1E 9 (s.w.zeroExtend 8)

/-- An instruction that writes a pair from an address, the high byte at the lower index (20_memory.md R216). -/
theorem done_setPair (s : State) (op : Byte) {upper lower : SpIndex} (hne : upper ≠ lower) (v : Addr) :
    ∃ t, done op ((s.setSp upper (highByte v)).setSp lower (lowByte v)) = .next t
      ∧ t = { s with scratch := t.scratch, ticks := cost s.cfg op false }
      ∧ ∀ j, t.sp j = if j = upper then BitVec.ofNat 8 (v.toNat / 256)
          else if j = lower then BitVec.ofNat 8 v.toNat else s.sp j := by
  obtain ⟨t, hnext, hframe, hsp⟩ := done_setSp (s.setSp upper (highByte v)) op lower (lowByte v)
  refine ⟨t, hnext, hframe, fun j => ?_⟩
  rw [hsp, State.sp_setSp, highByte_eq_div, lowByte_eq_ofNat, ite_ite_comm]
  rintro rfl
  exact hne.symm

/-- Settles O24. -/
theorem dataCounterPairMoves : Obligations.DataCounterPairMoves :=
  ⟨rfl, rfl, rfl, rfl, fun s => ⟨rfl, rfl, done_setPair s 0x0E (by decide) s.dc0,
    done_setPair s 0x11 (by decide) s.dc0⟩⟩

/-! The scratchpad field 0..14 -/

theorem encode_lrA (r : BitVec 4) (h : r.toNat ≤ 14) : encode (.lrA r) = [0x40#8 + r.zeroExtend 8] := by
  revert r
  decide

theorem encode_lrTo (r : BitVec 4) (h : r.toNat ≤ 14) : encode (.lrTo r) = [0x50#8 + r.zeroExtend 8] := by
  revert r
  decide

/-- Settles O26: the five rows as one, on the operand form that the field names. -/
theorem loadAFromScratchField : Obligations.LoadAFromScratchField := by
  refine fun s r h => ⟨encode_lrA r h, ?_⟩
  rw [exec_lrA r s h, State.loadFromScratch_eq, spForm_index r s h, spForm_isar r s h,
    opcodeRow_or_field 0x40#8 r rfl]
  rfl

/-- Settles O27. The post-modification leaves the scratchpad, so its bytes are those after the write. -/
theorem storeAToScratchField : Obligations.StoreAToScratchField := by
  refine fun s r h => ⟨encode_lrTo r h, ?_⟩
  rw [exec_lrTo r s h, State.storeToScratch_eq, spForm_index r s h, spForm_isar r s h,
    opcodeRow_or_field 0x50#8 r rfl]
  exact ⟨_, rfl, rfl, fun j => s.sp_setSp _ j s.a⟩

/-! The halves of ISAR -/

/-- ISARU written over, ISARL kept (R419). -/
theorem isar_replace_upper (isar : SpIndex) (i : BitVec 3) :
    (i.zeroExtend 6 <<< 3) ||| (isar &&& 0x07#6) = (i ++ isar.extractLsb' 0 3 : BitVec (3 + 3)) := by
  revert isar i
  decide

/-- ISARL written over, ISARU kept (R420). -/
theorem isar_replace_lower (isar : SpIndex) (i : BitVec 3) :
    (isar &&& 0x38#6) ||| i.zeroExtend 6 = (isar.extractLsb' 3 3 ++ i : BitVec (3 + 3)) := by
  revert isar i
  decide

theorem encode_lisu (i : BitVec 3) : encode (.lisu i) = [0x60#8 + i.zeroExtend 8] :=
  congrArg (fun op => [op]) (opcodeRow_or_field 0x60#8 i rfl)

theorem encode_lisl (i : BitVec 3) : encode (.lisl i) = [0x68#8 + i.zeroExtend 8] :=
  congrArg (fun op => [op]) (opcodeRow_or_field 0x68#8 i rfl)

theorem exec_lisu (i : BitVec 3) (s : State) :
    exec (.lisu i) s = done (0x60#8 + i.zeroExtend 8) (s.setIsar (i ++ s.isarL)) :=
  congrArg₂ (fun op v => done op (s.setIsar v)) (opcodeRow_or_field 0x60#8 i rfl) (isar_replace_upper s.isar i)

theorem exec_lisl (i : BitVec 3) (s : State) :
    exec (.lisl i) s = done (0x68#8 + i.zeroExtend 8) (s.setIsar (s.isarU ++ i)) :=
  congrArg₂ (fun op v => done op (s.setIsar v)) (opcodeRow_or_field 0x68#8 i rfl) (isar_replace_lower s.isar i)

/-- Settles O23. -/
theorem isarMoves : Obligations.IsarMoves := by
  refine ⟨rfl, rfl, fun s => ?_, fun s => rfl, fun s i => ⟨encode_lisu i, encode_lisl i, ?_, ?_⟩⟩
  · rw [BitVec.ofNat_toNat]
    rfl
  · rw [exec_lisu]
    rfl
  · rw [exec_lisl]
    rfl

end Sys2Proof.Machine
end

section
/-! The memory-reference instructions that read the byte at DC0 (42_memory_reference.md R450, R452 to R457): the whole
next state of each way they end, DC0 advanced and nothing but A and W changed besides. -/

namespace Sys2Proof.Machine

/-- Settles O31: a read of memory changes nothing, so LM is a load of A and an advance of DC0. -/
theorem loadFromMemory : Obligations.LoadFromMemory := ⟨rfl, fun _ => rfl⟩

/-- An addition of m to A that advances DC0. -/
theorem done_advanceDC_add8 (s : State) (op m : Byte) :
    done op (s.advanceDC.setAcc (add8 s.a m)) = .next { s with
      a := s.a + m, w := addW s.flagICB s.a m, dc0 := s.dc0 + 1, ticks := cost s.cfg op false } := by
  rw [State.setAcc_add8]
  rfl

/-- A decimal addition of m to A that advances DC0: the flags are those of the binary addition (43_alu.md R504). -/
theorem done_advanceDC_decAdd8 (s : State) (op m : Byte) :
    done op (s.advanceDC.setAcc (decAdd8 s.a m)) = .next { s with
      a := decDigits s.a m, w := addW s.flagICB s.a m, dc0 := s.dc0 + 1, ticks := cost s.cfg op false } := by
  rw [State.setAcc_decAdd8]
  rfl

/-- A comparison of m with A that advances DC0: m is the minuend (R457), and A is kept. -/
theorem done_advanceDC_compare (s : State) (op m : Byte) :
    done op (s.advanceDC.withFlags (sub8 m s.a).2) = .next { s with
      w := subW s.flagICB m s.a, dc0 := s.dc0 + 1, ticks := cost s.cfg op false } := by
  rw [State.withFlags_sub8]
  rfl

/-- A logical result r that goes to A and advances DC0. -/
theorem done_advanceDC_logic8 (s : State) (op r : Byte) :
    done op (s.advanceDC.setAcc (logic8 r)) = .next { s with
      a := r, w := logicW s.flagICB r, dc0 := s.dc0 + 1, ticks := cost s.cfg op false } := by
  rw [State.setAcc_logic8]
  rfl

/-- Settles O33: AM, AMD and CM are the two additions and the comparison, on the byte at DC0. -/
theorem addAndCompareMemory : Obligations.AddAndCompareMemory := by
  refine ⟨rfl, rfl, rfl, ?_⟩
  rintro s _ rfl
  exact ⟨done_advanceDC_add8 s 0x88 s.operandAtDC, done_advanceDC_decAdd8 s 0x89 s.operandAtDC,
    done_advanceDC_compare s 0x8D s.operandAtDC⟩

/-- Settles O34: NM, OM and XM differ in their logical result and their opcode only. -/
theorem logicMemory : Obligations.LogicMemory := by
  refine ⟨rfl, rfl, rfl, ?_⟩
  rintro s _ rfl
  exact ⟨done_advanceDC_logic8 s 0x8A (s.a &&& s.operandAtDC), done_advanceDC_logic8 s 0x8B (s.a ||| s.operandAtDC),
    done_advanceDC_logic8 s 0x8C (s.a ^^^ s.operandAtDC)⟩

end Sys2Proof.Machine
end

section
/-! The flag functions (43_alu.md R500, R502, R505): each flag of an addition and of a subtraction, and the decimal
addition of BCD numbers digit by digit. -/

namespace Sys2Proof.Machine

/-! Addition and subtraction -/

/-- A flag record is known from the W that it is set in. -/
theorem flagSet_of_setFlags {f : FlagSet} {v : BitVec 5} {icb o z c s : Bool}
    (h : setFlags f v = packW icb o z c s) : f = { s := s, c := c, z := z, o := o } := by
  rw [setFlags_eq] at h
  obtain ⟨hs, hc, hz, ho, -⟩ := packW_getLsbD (v.getLsbD 4) f.o f.z f.c f.s
  obtain ⟨hs', hc', hz', ho', -⟩ := packW_getLsbD icb o z c s
  rw [h] at hs hc hz ho
  rw [← hs.symm.trans hs', ← hc.symm.trans hc', ← hz.symm.trans hz', ← ho.symm.trans ho']

theorem add8_flags (a b : Byte) : (add8 a b).2 = {
    o := a.msb == b.msb && (a + b).msb != a.msb, z := a + b == 0
    c := (a.zeroExtend 9 + b.zeroExtend 9).msb, s := !(a + b).msb } :=
  flagSet_of_setFlags (setFlags_add8 a b 0)

theorem sub8_flags (a b : Byte) : (sub8 a b).2 = {
    o := a.msb == (-b).msb && (a - b).msb != a.msb, z := a == b
    c := decide (b.toNat ≤ a.toNat), s := !(a - b).msb } :=
  flagSet_of_setFlags (setFlags_sub8 a b 0)

theorem add8_overflow_iff (a b : Byte) :
    (add8 a b).2.o = true ↔ a.msb = b.msb ∧ (a + b).msb ≠ a.msb := by
  rw [add8_flags, Bool.and_eq_true, beq_iff_eq, bne_iff_ne]

theorem sub8_overflow_iff (a b : Byte) :
    (sub8 a b).2.o = true ↔ a.msb = (-b).msb ∧ (a - b).msb ≠ a.msb := by
  rw [sub8_flags, Bool.and_eq_true, beq_iff_eq, bne_iff_ne]

/-- The rule of the signs is signed overflow (R501). -/
theorem add8_overflow_iff_out_of_range (a b : Byte) :
    (add8 a b).2.o = true ↔ ¬ (-128 ≤ a.toInt + b.toInt ∧ a.toInt + b.toInt ≤ 127) := by
  have hsigned : (add8 a b).2.o = a.saddOverflow b := by
    rw [add8_flags, BitVec.saddOverflow_eq]
    rfl
  rw [hsigned, BitVec.saddOverflow, Bool.or_eq_true, decide_eq_true_eq, decide_eq_true_eq]
  omega

/-- Settles O35. -/
theorem addFlagRule : Obligations.AddFlagRule := by
  refine fun a b => ⟨add8_fst a b, ?_, add8_overflow_iff a b, add8_overflow_iff_out_of_range a b, ?_, ?_⟩
  · rw [add8_carry, decide_eq_true_eq]
  · rw [add8_flags, beq_iff_eq]
  · rw [add8_flags, Bool.not_eq_true']

/-- 0x80 is the one byte with bit 7 set whose two's complement has it too. -/
theorem sub8_self_overflow_iff (a : Byte) : (sub8 a a).2.o = true ↔ a = 0x80#8 := by
  rw [sub8_overflow_iff, BitVec.sub_self]
  constructor
  · rintro ⟨hneg, hset⟩
    by_contra hmin
    have hzero : a ≠ 0#8 := fun h => hset (congrArg BitVec.msb h.symm)
    rw [BitVec.msb_neg_of_ne_intMin_of_ne_zero hmin hzero] at hneg
    exact Bool.not_ne_self _ hneg.symm
  · rintro rfl
    decide

/-- Subtracting 0x80 turns bit 7 over. -/
theorem msb_sub_signBit (a : Byte) : (a - 0x80#8).msb = !a.msb := by
  rw [BitVec.msb_eq_decide, BitVec.msb_eq_decide, ← decide_not, decide_eq_decide]
  bv_omega

/-- 0x80 is its own two's complement, so only a with bit 7 set shares its sign. -/
theorem sub8_signBit_overflow_iff (a : Byte) : (sub8 a 0x80#8).2.o = true ↔ a.msb = true := by
  rw [sub8_overflow_iff, msb_sub_signBit]
  exact and_iff_left (Bool.not_ne_self _)

/-- Settles O36. -/
theorem subtractFlagRule : Obligations.SubtractFlagRule := by
  refine fun a b => ⟨sub8_fst a b, ?_, ?_, ?_, sub8_overflow_iff a b, sub8_self_overflow_iff a,
    sub8_signBit_overflow_iff a⟩
  · rw [sub8_carry, decide_eq_true_eq]
  · rw [sub8_flags, beq_iff_eq]
  · rw [sub8_flags, Bool.not_eq_true']

/-! Decimal addition -/

theorem toNat_bcd {n : Nat} (h : n < 100) : (bcd n).toNat = 16 * (n / 10) + n % 10 := by
  rw [bcd, BitVec.toNat_ofNat]
  omega

/-- The bias raises each digit by 6, and none of them leaves its nibble (R505). -/
theorem toNat_bcd_biased {n : Nat} (h : n < 100) :
    (bcd n + 0x66#8).toNat = 16 * (n / 10 + 6) + (n % 10 + 6) := by
  rw [BitVec.toNat_add, toNat_bcd h, BitVec.toNat_ofNat]
  omega

/-- A nibble of the decimal addition whose augend is raised by 6: d is the sum of the two digits and of the carry
in. It carries out at 10, and is corrected to the digit of d. -/
theorem biasedNibble_div (d : Nat) (h : d ≤ 19) : (d + 6) / 16 = d / 10 := by omega

theorem biasedNibble_corrected (d : Nat) (h : d ≤ 19) :
    (if 16 ≤ d + 6 then d + 6 else d + 6 + 10) % 16 = d % 10 := by
  split <;> omega

/-- The decimal addition gives the decimal digits of the sum. -/
theorem decDigits_bcd {x y : Nat} (hx : x < 100) (hy : y < 100) :
    decDigits (bcd x + 0x66#8) (bcd y) = bcd ((x + y) % 100) := by
  have hlo : (16 * (x / 10 + 6) + (x % 10 + 6)) % 16 + (16 * (y / 10) + y % 10) % 16 = x % 10 + y % 10 + 6 := by
    omega
  have hhi : (16 * (x / 10 + 6) + (x % 10 + 6)) / 16 + (16 * (y / 10) + y % 10) / 16
      + (x % 10 + y % 10) / 10 = x / 10 + y / 10 + (x % 10 + y % 10) / 10 + 6 := by
    omega
  have htens : (x / 10 + y / 10 + (x % 10 + y % 10) / 10) % 10 = (x + y) % 100 / 10 := by omega
  have hones : (x % 10 + y % 10) % 10 = (x + y) % 100 % 10 := by omega
  simp only [decDigits, toNat_bcd_biased hx, toNat_bcd hy]
  rw [hlo, biasedNibble_div _ (by omega), hhi, biasedNibble_corrected _ (by omega),
    biasedNibble_corrected _ (by omega), htens, hones, bcd]

/-- Settles O37: C is the carry out of the high nibble, so it is the decimal carry. -/
theorem decimalAddOfBcd : Obligations.DecimalAddOfBcd := by
  refine fun x y hx hy => ⟨(decAdd8_fst _ _).trans (decDigits_bcd hx hy), ?_⟩
  rw [decAdd8_snd, add8_carry, decide_eq_true_eq, toNat_bcd_biased hx, toNat_bcd hy]
  omega

end Sys2Proof.Machine
end

section
/-! The arithmetic and logic instructions on A and an immediate byte (43_alu.md R510 to R521): each is a flag function
on A, and changes A, W and the ticks only. -/

namespace Sys2Proof.Machine

/-- An addition of v to A. -/
theorem done_setAcc_add8 (s : State) (op v : Byte) :
    done op (s.setAcc (add8 s.a v)) = .next { s with
      a := s.a + v, w := addW s.flagICB s.a v, ticks := cost s.cfg op false } := by
  rw [State.setAcc_add8]
  rfl

/-- A logical result r that goes to A. -/
theorem done_setAcc_logic8 (s : State) (op r : Byte) :
    done op (s.setAcc (logic8 r)) = .next { s with
      a := r, w := logicW s.flagICB r, ticks := cost s.cfg op false } := by
  rw [State.setAcc_logic8]
  rfl

/-- A right shift, zero filled, is a division. -/
theorem ushiftRight_eq_ofNat_div (a : Byte) (n : Nat) : a >>> n = BitVec.ofNat 8 (a.toNat / 2 ^ n) := by
  rw [← Nat.shiftRight_eq_div_pow, ← BitVec.toNat_ushiftRight, BitVec.ofNat_toNat, BitVec.setWidth_eq]

/-- A left shift, zero filled, is a multiplication modulo 256. -/
theorem shiftLeft_eq_ofNat_mul (a : Byte) (n : Nat) : a <<< n = BitVec.ofNat 8 (a.toNat * 2 ^ n) := by
  rw [← Nat.shiftLeft_eq]
  rfl

/-- Settles O38. -/
theorem shifts : Obligations.Shifts := by
  refine ⟨rfl, rfl, rfl, rfl, fun s i op r hi => ?_⟩
  have hexec : exec i s = done op (s.setAcc (logic8 r)) := by
    simp only [List.mem_cons, List.not_mem_nil, or_false, Prod.mk.injEq] at hi
    rcases hi with ⟨rfl, rfl, rfl⟩ | ⟨rfl, rfl, rfl⟩ | ⟨rfl, rfl, rfl⟩ | ⟨rfl, rfl, rfl⟩
    · exact congrArg (done 0x12 ∘ s.setAcc ∘ logic8) (ushiftRight_eq_ofNat_div s.a 1)
    · exact congrArg (done 0x13 ∘ s.setAcc ∘ logic8) (shiftLeft_eq_ofNat_mul s.a 1)
    · exact congrArg (done 0x14 ∘ s.setAcc ∘ logic8) (ushiftRight_eq_ofNat_div s.a 4)
    · exact congrArg (done 0x15 ∘ s.setAcc ∘ logic8) (shiftLeft_eq_ofNat_mul s.a 4)
  rw [hexec]
  exact done_setAcc_logic8 s op r

/-- Adding 0 neither carries nor overflows, so it sets the flags of a logical result. -/
theorem addW_zero (icb : Bool) (a : Byte) : addW icb a 0 = logicW icb a := by
  have hcarry : (a.zeroExtend 9 + (0 : Byte).zeroExtend 9).msb = false := by
    rw [carry_msb, decide_eq_false_iff_not]
    exact not_le.mpr a.isLt
  have hsum : a + 0 = a := BitVec.add_zero a
  rw [addW, hcarry, hsum, bne_self_eq_false, Bool.and_false, logicW]

theorem exec_lnk (s : State) :
    exec .lnk s = done 0x19 (s.setAcc (add8 s.a (if s.flagC then 1 else 0))) := rfl

/-- Settles O39. -/
theorem complementLinkIncrement : Obligations.ComplementLinkIncrement := by
  refine ⟨rfl, rfl, rfl, fun s => ⟨?com, fun hc => ?lnkClear, fun hc => ?lnkSet, done_setAcc_add8 s 0x1F 1⟩⟩
  case com =>
    rw [← BitVec.xor_allOnes]
    exact done_setAcc_logic8 s 0x18 (s.a ^^^ 0xFF#8)
  case lnkClear =>
    have hsum : s.a + 0 = s.a := BitVec.add_zero s.a
    rw [exec_lnk, hc, if_neg Bool.false_ne_true, done_setAcc_add8, addW_zero, hsum]
  case lnkSet =>
    rw [exec_lnk, hc, if_pos rfl, done_setAcc_add8]

/-- Settles O40. -/
theorem logicImmediate : Obligations.LogicImmediate := fun s ii =>
  ⟨rfl, rfl, rfl, done_setAcc_logic8 s 0x21 (s.a &&& ii), done_setAcc_logic8 s 0x22 (s.a ||| ii),
    done_setAcc_logic8 s 0x23 (s.a ^^^ ii)⟩

/-- Settles O41: ii is the minuend of CI. -/
theorem addAndCompareImmediate : Obligations.AddAndCompareImmediate := by
  refine fun s ii => ⟨rfl, rfl, done_setAcc_add8 s 0x24 ii, ?_⟩
  exact congrArg (done 0x25) (s.withFlags_sub8 ii s.a)

end Sys2Proof.Machine
end

section
/-! The arithmetic and logic instructions on a scratchpad field 0..14 (43_alu.md R522 to R526): the five rows of each as
one, on the operand form that the field names. -/

namespace Sys2Proof.Machine

/-- An instruction with a scratchpad field whose five rows take their opcode from one row of the map: the opcode of
field r is the row's plus r (30_encoding.md R310). -/
theorem encode_scratchRow {low high : BitVec 4 → Instr} {still postInc postDec undef : Instr} {row : Byte}
    (hrow : row.setWidth 4 = 0) (hlow : ∀ r, encode (low r) = [row ||| r.zeroExtend 8])
    (hhigh : ∀ r, encode (high r) = [row ||| r.zeroExtend 8]) (hstill : encode still = [row ||| 12])
    (hinc : encode postInc = [row ||| 13]) (hdec : encode postDec = [row ||| 14])
    {r : BitVec 4} (h : r.toNat ≤ 14) :
    encode (scratchRow low high still postInc postDec undef r) = [row + r.zeroExtend 8] := by
  rw [← opcodeRow_or_field row r hrow]
  rcases field_cases r h with hlo | ⟨hlo, hhi⟩ | rfl | rfl | rfl
  · rw [scratchRow, if_pos hlo, hlow]
  · rw [scratchRow, if_neg hlo, if_pos hhi, hhigh]
  · exact hstill
  · exact hinc
  · exact hdec

theorem sub_one_eq_add (b : Byte) : b - 1 = b + 0xFF#8 := BitVec.sub_eq_add_neg b 1

/-- Settles O42: adding 0xFF is a decrement, and the post-modification leaves the scratchpad. -/
theorem decrementScratchField : Obligations.DecrementScratchField := by
  rintro s r _ h rfl
  refine ⟨encode_scratchRow rfl (fun _ => rfl) (fun _ => rfl) rfl rfl rfl h, ?_⟩
  rw [exec_ds r s h, State.decScratch_eq, spForm_index r s h, spForm_isar r s h, opcodeRow_or_field 0x30#8 r rfl,
    sub_one_eq_add]
  exact ⟨_, rfl, rfl, fun j => s.sp_setSp _ j _⟩

/-- An instruction on A and the byte b that the field names, whose result leaves A = v and W = w. -/
theorem done_accScratch {s : State} {r : BitVec 4} {f : Byte → Byte → Byte × FlagSet} {row v : Byte} {w : BitVec 5}
    (h : r.toNat ≤ 14) (hrow : row.setWidth 4 = 0)
    (hf : s.setAcc (f s.a (s.sp (fieldIndex r s.isar))) = { s with a := v, w := w }) :
    done (row ||| r.zeroExtend 8) (s.accScratch (spForm r) f) = .next { s with
      a := v, w := w, isar := fieldIsar r s.isar, ticks := cost s.cfg (row + r.zeroExtend 8) false } := by
  have hacc : s.accScratch (spForm r) f = { s with a := v, w := w, isar := fieldIsar r s.isar } := by
    rw [State.accScratch_eq, spForm_index r s h, spForm_isar r s h]
    exact congrArg (fun t : State => { t with isar := fieldIsar r s.isar }) hf
  rw [hacc, opcodeRow_or_field row r hrow]
  rfl

/-- Settles O43: AS and ASD set the same flags, and differ in A only. -/
theorem addScratchField : Obligations.AddScratchField := by
  rintro s r _ h rfl
  refine ⟨encode_scratchRow rfl (fun _ => rfl) (fun _ => rfl) rfl rfl rfl h,
    encode_scratchRow rfl (fun _ => rfl) (fun _ => rfl) rfl rfl rfl h, ?_, ?_⟩
  · rw [exec_as r s h]
    exact done_accScratch h rfl (s.setAcc_add8 _ _)
  · rw [exec_asd r s h]
    exact done_accScratch h rfl (s.setAcc_decAdd8 _ _)

/-- Settles O44. -/
theorem logicScratchField : Obligations.LogicScratchField := by
  rintro s r _ h rfl
  refine ⟨encode_scratchRow rfl (fun _ => rfl) (fun _ => rfl) rfl rfl rfl h,
    encode_scratchRow rfl (fun _ => rfl) (fun _ => rfl) rfl rfl rfl h, ?_, ?_⟩
  · rw [exec_xs r s h]
    exact done_accScratch h rfl (s.setAcc_logic8 _)
  · rw [exec_ns r s h]
    exact done_accScratch h rfl (s.setAcc_logic8 _)

end Sys2Proof.Machine
end

section
/-! The control-transfer instructions (44_control_transfer.md R600 to R625): the target of a relative branch, the whole
next state of each jump, call and return, and of each conditional branch in both its outcomes. -/

namespace Sys2Proof.Machine

/-! The relative target -/

/-- The source's backward displacement, read back from its complement (R602's backward half). -/
theorem toNat_pred_complement (n : Byte) (h : 1 ≤ n.toNat) :
    ((n - 1#8) ^^^ 0xFF#8).toNat = 256 - n.toNat := by
  have hpred : (n - 1#8).toNat = n.toNat - 1 := BitVec.toNat_sub_of_le h
  have hcompl : (n - 1#8) ^^^ 0xFF#8 = ~~~(n - 1#8) := BitVec.xor_allOnes
  rw [hcompl, BitVec.toNat_not, hpred]
  omega

/-- Settles O45: the two halves of R601 are the two halves of the signed reading of n. -/
theorem relativeTarget : Obligations.RelativeTarget := by
  intro pc n
  rw [relative, BitVec.toInt_eq_msb_cond, Int.add_sub_assoc]
  cases hmsb : n.msb with
  | false => rfl
  | true =>
    have hhalf : 2 ^ 8 ≤ 2 * n.toNat := BitVec.msb_eq_true_iff_two_mul_ge.mp hmsb
    have hlt : n.toNat < 256 := n.isLt
    have hback : -((((n - 1#8) ^^^ 0xFF#8).toNat : Int) + 1) = (n.toNat : Int) - 256 - 1 := by
      rw [toNat_pred_complement n (by omega)]
      omega
    exact congrArg (fun d => BitVec.ofInt 16 ((pc.toNat : Int) + d)) hback

/-! Jumps, calls and returns -/

/-- The address bytes of an instruction are those its address is written from (30_encoding.md R305). -/
theorem addressBytes_eq (op hh ll : Byte) : [op, highByte (hh ++ ll), lowByte (hh ++ ll)] = [op, hh, ll] := by
  rw [← joinBytes, highByte_joinBytes, lowByte_joinBytes]

/-- Settles O46. -/
theorem jumpsCallsAndReturns : Obligations.JumpsCallsAndReturns := by
  refine ⟨rfl, rfl, rfl, rfl, rfl, fun s hh ll => ⟨addressBytes_eq 0x28 hh ll, addressBytes_eq 0x29 hh ll, ?jmp, ?pi,
    rfl, rfl, rfl, rfl, done_setPair s 0x08 (by decide) s.pc1⟩⟩
  case jmp =>
    exact congrArg (fun a => done 0x29 { s with a := a, pc0 := hh ++ ll }) (highByte_joinBytes hh ll)
  case pi =>
    exact congrArg (fun a => done 0x28 { s with a := a, pc1 := s.pc0, pc0 := hh ++ ll }) (highByte_joinBytes hh ll)

/-! Conditional branches -/

theorem State.branch_of_taken (s : State) (op n : Byte) {taken : Bool} (h : taken = true) :
    s.branch op n taken = { s with pc0 := relative s.pc0 n, ticks := cost s.cfg op true } := by
  subst h
  rfl

theorem State.branch_of_not_taken (s : State) (op n : Byte) {taken : Bool} (h : taken = false) :
    s.branch op n taken = { s with ticks := cost s.cfg op false } := by
  subst h
  rfl

/-- The low m flags masked by t are not all 0 when some bit that t names is 1. -/
theorem masked_bne_zero {m : Nat} (w : BitVec 5) (t : BitVec m) :
    (w.extractLsb' 0 m &&& t != 0) = (List.range m).any fun k => t.getLsbD k && w.getLsbD k := by
  rw [Bool.eq_iff_iff, bne_iff_ne, List.any_eq_true, ne_eq, BitVec.eq_of_getLsbD_eq_iff]
  simp [and_comm]

/-- BT with its condition flag by flag (R620). -/
theorem exec_bt (t : BitVec 3) (n : Byte) (s : State) :
    exec (.bt t n) s = .next (s.branch (0x80#8 + t.zeroExtend 8) n
      (t.getLsbD 0 && s.flagS || t.getLsbD 1 && s.flagC || t.getLsbD 2 && s.flagZ)) := by
  have hnamed : (s.w.extractLsb' 0 3 &&& t != 0)
      = (t.getLsbD 0 && s.flagS || t.getLsbD 1 && s.flagC || t.getLsbD 2 && s.flagZ) := by
    rw [masked_bne_zero]
    simp [List.range_succ, Bool.or_assoc, State.flagS, State.flagC, State.flagZ]
  rw [← hnamed, ← opcodeRow_or_field 0x80#8 t rfl]
  rfl

/-- BF with its condition flag by flag (R622). -/
theorem exec_bf (t : BitVec 4) (n : Byte) (s : State) :
    exec (.bf t n) s = .next (s.branch (0x90#8 + t.zeroExtend 8) n
      (!(t.getLsbD 0 && s.flagS || t.getLsbD 1 && s.flagC || t.getLsbD 2 && s.flagZ || t.getLsbD 3 && s.flagO))) := by
  have hnamed : (s.w.extractLsb' 0 4 &&& t != 0)
      = (t.getLsbD 0 && s.flagS || t.getLsbD 1 && s.flagC || t.getLsbD 2 && s.flagZ || t.getLsbD 3 && s.flagO) := by
    rw [masked_bne_zero]
    simp [List.range_succ, Bool.or_assoc, State.flagS, State.flagC, State.flagZ, State.flagO]
  rw [← hnamed, bne, Bool.not_not, ← opcodeRow_or_field 0x90#8 t rfl]
  rfl

/-- BR7's condition (R624). -/
theorem State.isarL_bne_seven (s : State) : (s.isarL != 7) = decide (s.isar.toNat % 8 ≠ 7) := by
  have hlow : s.isarL.toNat = s.isar.toNat % 8 := BitVec.extractLsb'_toNat 0 3 s.isar
  rw [Bool.eq_iff_iff, bne_iff_ne, decide_eq_true_iff, ne_eq, ← BitVec.toNat_inj, hlow]
  rfl

theorem exec_br7 (n : Byte) (s : State) :
    exec (.br7 n) s = .next (s.branch 0x8F n (decide (s.isar.toNat % 8 ≠ 7))) := by
  rw [← State.isarL_bne_seven]
  rfl

theorem encode_bt (t : BitVec 3) (n : Byte) : encode (.bt t n) = [0x80#8 + t.zeroExtend 8, n] :=
  congrArg (fun op => [op, n]) (opcodeRow_or_field 0x80#8 t rfl)

theorem encode_bf (t : BitVec 4) (n : Byte) : encode (.bf t n) = [0x90#8 + t.zeroExtend 8, n] :=
  congrArg (fun op => [op, n]) (opcodeRow_or_field 0x90#8 t rfl)

/-- Settles O47: each condition decides between the two outcomes of a branch. -/
theorem conditionalBranches : Obligations.ConditionalBranches := by
  refine ⟨fun s t n => ⟨encode_bt t n, fun h => ?btTaken, fun h => ?btNot⟩,
    fun s t n => ⟨encode_bf t n, fun h => ?bfTaken, fun h => ?bfNot⟩,
    fun s n => ⟨rfl, fun h => ?br7Taken, fun h => ?br7Not⟩⟩
  case btTaken => exact (exec_bt t n s).trans (congrArg _ (s.branch_of_taken _ n h))
  case btNot => exact (exec_bt t n s).trans (congrArg _ (s.branch_of_not_taken _ n h))
  case bfTaken => exact (exec_bf t n s).trans (congrArg _ (s.branch_of_taken _ n (congrArg not h)))
  case bfNot => exact (exec_bf t n s).trans (congrArg _ (s.branch_of_not_taken _ n (congrArg not h)))
  case br7Taken => rw [exec_br7, s.branch_of_taken _ n (decide_eq_true h)]
  case br7Not => rw [exec_br7, s.branch_of_not_taken _ n (decide_eq_false (not_not.mpr h))]

end Sys2Proof.Machine
end

section
/-! The interrupt-enable flag, NOP and the undefined opcodes (45_io_system.md R660 to R670). -/

namespace Sys2Proof.Machine

/-- DI's mask clears ICB alone (R660). -/
theorem packW_and_flagMask (icb o z c s : Bool) : packW icb o z c s &&& 0x0F#5 = packW false o z c s := by
  revert icb o z c s
  decide

/-- EI's mask sets ICB alone (R661). -/
theorem packW_or_icbMask (icb o z c s : Bool) : packW icb o z c s ||| 0x10#5 = packW true o z c s := by
  revert icb o z c s
  decide

theorem exec_di (s : State) :
    exec .di s = .next { s with
      w := packW false s.flagO s.flagZ s.flagC s.flagS, ticks := cost s.cfg 0x1A false } := by
  rw [← packW_and_flagMask s.flagICB, ← s.w_eq]
  rfl

theorem exec_ei (s : State) :
    exec .ei s = .next { s with
      w := packW true s.flagO s.flagZ s.flagC s.flagS, ticks := cost s.cfg 0x1B false } := by
  rw [← packW_or_icbMask s.flagICB, ← s.w_eq]
  rfl

/-- Settles O50. -/
theorem interruptFlagAndNop : Obligations.InterruptFlagAndNop :=
  ⟨rfl, rfl, rfl, fun s => ⟨exec_di s, exec_ei s, rfl⟩⟩

/-- Settles O51: each of the ten is well formed and encodes as its byte, so that byte decodes to it. -/
theorem undefinedOpcodesAreNoOps : Obligations.UndefinedOpcodesAreNoOps := by
  intro i op hi
  have hrow : i.wf = true ∧ encode i = [op] ∧ ∀ s, exec i s = .next s.chargeUndef := by
    simp only [List.mem_cons, List.not_mem_nil, or_false, Prod.mk.injEq] at hi
    rcases hi with ⟨rfl, rfl⟩ | ⟨rfl, rfl⟩ | ⟨rfl, rfl⟩ | ⟨rfl, rfl⟩ | ⟨rfl, rfl⟩ | ⟨rfl, rfl⟩ | ⟨rfl, rfl⟩
      | ⟨rfl, rfl⟩ | ⟨rfl, rfl⟩ | ⟨rfl, rfl⟩ <;> exact ⟨rfl, rfl, fun _ => rfl⟩
  obtain ⟨hwf, hencode, hexec⟩ := hrow
  have hdecode : decode (encode i ++ []) = .ok (i, []) := decodeOfEncode i [] hwf
  rw [List.append_nil, hencode] at hdecode
  exact ⟨hencode, hdecode, hexec⟩

end Sys2Proof.Machine
end

section
/-! The ledger of ticks over whole frames (60_exceptions.md R741, R742 (d)). -/

namespace Sys2Proof.Machine

/-- DEBT less the ticks that have elapsed in the frame that is open. -/
def State.balance (s : State) : Int :=
  match s.sched.phase with
  | .running => s.sched.debt - s.sched.elapsed
  | .idle => s.sched.debt

/-- The ticks that the ledger counts for a step from s to t: a frame that ends at once charges none. -/
def stepTicks (s t : State) : Nat :=
  match s.beginFrame.sched.phase with
  | .running => t.ticks
  | .idle => 0

/-- The calls of RunFrame that the ledger counts for a step to t. -/
def stepFrames (t : State) : Nat :=
  match t.sched.phase with
  | .running => 0
  | .idle => 1

theorem State.balance_of_running {s : State} (h : s.sched.phase = .running) :
    s.balance = s.sched.debt - s.sched.elapsed := by
  unfold State.balance
  rw [h]

theorem State.balance_of_idle {s : State} (h : s.sched.phase = .idle) : s.balance = s.sched.debt := by
  unfold State.balance
  rw [h]

theorem stepTicks_of_running {s : State} (t : State) (h : s.beginFrame.sched.phase = .running) :
    stepTicks s t = t.ticks := by
  unfold stepTicks
  rw [h]

theorem stepTicks_of_idle {s : State} (t : State) (h : s.beginFrame.sched.phase = .idle) : stepTicks s t = 0 := by
  unfold stepTicks
  rw [h]

theorem stepFrames_of_running {t : State} (h : t.sched.phase = .running) : stepFrames t = 0 := by
  unfold stepFrames
  rw [h]

theorem stepFrames_of_idle {t : State} (h : t.sched.phase = .idle) : stepFrames t = 1 := by
  unfold stepFrames
  rw [h]

/-- A ledger over one more step adds the first step's ticks and frames to the ledger of the rest. -/
theorem exists_step_of_ledger_succ {k ticks frames : Nat} {s u : State}
    (h : ledger (k + 1) s = some (u, ticks, frames)) :
    ∃ t ticks' frames', step s = .next t ∧ ledger k t = some (u, ticks', frames')
      ∧ ticks = stepTicks s t + ticks' ∧ frames = stepFrames t + frames' := by
  unfold ledger at h
  cases hstep : step s with
  | fault f => simp [hstep] at h
  | refused r => simp [hstep] at h
  | next t =>
    cases hrest : ledger k t with
    | none => simp [hstep, hrest] at h
    | some rest =>
      obtain ⟨v, ticks', frames'⟩ := rest
      simp only [hstep, hrest, Option.some.injEq, Prod.mk.injEq] at h
      obtain ⟨rfl, hticks, hframes⟩ := h
      exact ⟨t, ticks', frames', rfl, hrest, hticks.symm, hframes.symm⟩

/-- A frame that does not open is one that ended at once, out of a budget of 0 or less. -/
theorem State.beginFrame_idle_iff (s : State) :
    s.beginFrame.sched.phase = .idle ↔ s.sched.phase = .idle ∧ budget s.cfg s.sched.debt ≤ 0 := by
  cases hp : s.sched.phase with
  | running => simp [s.beginFrame_of_running hp, hp]
  | idle =>
    by_cases hb : 0 < budget s.cfg s.sched.debt
    · simp [s.beginFrame_of_budget hp hb, hb]
    · simp [s.beginFrame_of_no_budget hp (not_lt.mp hb), not_lt.mp hb]

/-- The opening of a frame charges nothing. -/
theorem State.beginFrame_balance_of_running (s : State) (h : s.beginFrame.sched.phase = .running) :
    s.beginFrame.balance = s.balance := by
  cases hp : s.sched.phase with
  | running => rw [s.beginFrame_of_running hp]
  | idle =>
    by_cases hb : 0 < budget s.cfg s.sched.debt
    · rw [s.balance_of_idle hp, State.balance_of_running h, s.beginFrame_of_budget hp hb]
      simp
    · rw [s.beginFrame_of_no_budget hp (not_lt.mp hb)] at h
      cases h

/-- A frame that ends at once adds FRAME_TICKS to DEBT (R742 (c)). -/
theorem State.beginFrame_balance_of_idle (s : State) (h : s.beginFrame.sched.phase = .idle) :
    s.beginFrame.balance = s.cfg.frameTicks + s.balance := by
  obtain ⟨hp, hb⟩ := s.beginFrame_idle_iff.mp h
  rw [State.balance_of_idle h, s.balance_of_idle hp, s.beginFrame_of_no_budget hp hb]
  rfl

/-- The end of a turn takes its ticks off the balance, and adds FRAME_TICKS when the frame ends there. -/
theorem State.endTurn_balance (s : State) (h : s.sched.phase = .running) :
    s.endTurn.balance = stepFrames s.endTurn * s.cfg.frameTicks + s.balance - s.ticks := by
  rw [s.balance_of_running h]
  by_cases hb : ((s.sched.elapsed + s.ticks : Nat) : Int) < budget s.cfg s.sched.debt
  · have htest := s.endTurn_sched
    rw [test_debt_of_running _ _ hb] at htest
    have hrunning : s.endTurn.sched.phase = .running := by rw [htest]
    rw [State.balance_of_running hrunning, stepFrames_of_running hrunning, htest]
    push_cast
    ring
  · have htest := s.endTurn_sched
    rw [test_of_met _ _ (not_lt.mp hb)] at htest
    have hidle : s.endTurn.sched.phase = .idle := by rw [htest]
    rw [State.balance_of_idle hidle, stepFrames_of_idle hidle, htest]
    simp only [budget]
    push_cast
    ring

/-- One step: the ticks it charges are what its frames add to the balance and the balance loses. -/
theorem step_balance {s t : State} (h : step s = .next t) :
    (stepTicks s t : Int) = stepFrames t * s.cfg.frameTicks + s.balance - t.balance := by
  rcases step_next_cases s t h with ⟨hidle, rfl⟩ | ⟨hrunning, -, u, hu, rfl⟩
  · rw [stepTicks_of_idle _ hidle, stepFrames_of_idle hidle, s.beginFrame_balance_of_idle hidle]
    push_cast
    ring
  · obtain ⟨hcfg, -, -, -, hsched, -⟩ := exec_sameLaunch hu
    obtain ⟨hcfg', -, -, -, hsched', -⟩ := fetchInstr_sameLaunch s.beginFrame
    have hsched : u.sched = s.beginFrame.sched := hsched.trans hsched'
    have hcfg : u.cfg = s.cfg := hcfg.trans (hcfg'.trans s.beginFrame_cfg)
    have hbalance : u.balance = s.balance := by
      rw [← s.beginFrame_balance_of_running hrunning, State.balance, State.balance, hsched]
    rw [u.endTurn_balance (hsched ▸ hrunning), stepTicks_of_running _ hrunning, hbalance, hcfg]
    have hticks : u.endTurn.ticks = u.ticks := rfl
    rw [hticks]
    ring

/-- Any number of steps, whether or not they begin or end inside a frame. -/
theorem ledger_balance (k : Nat) : ∀ {s t : State} {ticks frames : Nat},
    ledger k s = some (t, ticks, frames) →
      (ticks : Int) = frames * s.cfg.frameTicks + s.balance - t.balance := by
  induction k with
  | zero =>
    intro s t ticks frames h
    simp only [ledger, Option.some.injEq, Prod.mk.injEq] at h
    obtain ⟨rfl, rfl, rfl⟩ := h
    simp
  | succ k ih =>
    intro s u ticks frames h
    obtain ⟨t, ticks', frames', hstep, hrest, rfl, rfl⟩ := exists_step_of_ledger_succ h
    obtain ⟨hcfg, -⟩ := noStepChangesTheLaunch s t hstep
    have hfirst := step_balance hstep
    have hrest := ih hrest
    rw [hcfg] at hrest
    push_cast
    rw [hfirst, hrest]
    ring

/-- Settles O19: outside a frame the balance is DEBT. -/
theorem ticksAreConserved : Obligations.TicksAreConserved := by
  intro k s t ticks frames hs h ht
  rw [← s.balance_of_idle hs, ← t.balance_of_idle ht]
  exact ledger_balance k h

end Sys2Proof.Machine
end

section
/-! The CPU cannot read what it draws (60_exceptions.md R773, R776): each part of a step leaves the same state but for
the drawing, whether or not the drawing is erased before it. -/

namespace Sys2Proof.Machine

/-- The video writer without its framebuffer. -/
def Video.undrawn (d : Video) : Video := { d with fb := [] }

theorem State.undrawn_eq (s : State) : s.undrawn = { s with video := s.video.undrawn, frameOut := [] } := rfl

/-- No port write looks at FB: where a strobe plots and what it plots come from VX, VY, VCOLOR and VARM. -/
theorem videoReceive_undrawn (c : Config) (p : PortNo) (v : Byte) (d : Video) :
    (videoReceive c p v d.undrawn).undrawn = (videoReceive c p v d).undrawn := by
  unfold videoReceive
  by_cases hp : p = c.portArm
  · simp only [hp, if_true]
    rfl
  · simp only [hp, if_false]
    rfl

theorem State.portWriteNotify_undrawn (s : State) (p : PortNo) (v : Byte) :
    (s.undrawn.portWriteNotify p v).undrawn = (s.portWriteNotify p v).undrawn := by
  have hvideo := videoReceive_undrawn s.cfg p v s.video
  exact congrArg (fun d => { (s.portWriteNotify p v) with video := d, frameOut := [] }) hvideo

/-- An output to a port, erased before or after. -/
theorem done_portWriteNotify_undrawn (s : State) (op : Byte) (p : PortNo) (v : Byte) :
    undrawnResult (done op (s.undrawn.portWriteNotify p v)) = undrawnResult (done op (s.portWriteNotify p v)) :=
  congrArg (fun t : State => (.next (t.charge op false) : Result)) (s.portWriteNotify_undrawn p v)

/-- No instruction looks at the drawing. -/
theorem exec_undrawn (i : Instr) (s : State) : undrawnResult (exec i s.undrawn) = undrawnResult (exec i s) := by
  cases i
  case inAa p =>
    by_cases hp : p.toNat < 64
    · exact (congrArg undrawnResult (execInAa_port p s.undrawn hp)).trans
        (congrArg undrawnResult (execInAa_port p s hp)).symm
    · exact (congrArg undrawnResult (execInAa_fault p s.undrawn hp)).trans
        (congrArg undrawnResult (execInAa_fault p s hp)).symm
  case outAa p =>
    simp only [exec, execOutAa]
    split
    · exact done_portWriteNotify_undrawn s _ _ _
    · rfl
  case outs01 | outs23 | outs47 | outs8F => exact done_portWriteNotify_undrawn s _ _ _
  all_goals rfl

/-- The bytes of an instruction do not come from FB. -/
theorem fetchInstr_undrawn (s : State) : fetchInstr s.undrawn = ((fetchInstr s).1, (fetchInstr s).2.undrawn) := by
  rw [fetchInstr_eq, fetchInstr_eq]
  rfl

theorem State.endTurn_undrawn (s : State) : s.undrawn.endTurn.undrawn = s.endTurn.undrawn := rfl

theorem State.beginFrame_undrawn (s : State) : s.undrawn.beginFrame.undrawn = s.beginFrame.undrawn := by
  unfold State.beginFrame
  have hphase : s.undrawn.sched.phase = s.sched.phase := rfl
  rw [hphase]
  cases s.sched.phase <;> rfl

/-- The end of the turn, on every answer of the instruction. -/
def endResult : Result → Result
  | .next t => .next t.endTurn
  | .fault f => .fault f
  | .refused r => .refused r

theorem State.turn_eq (s : State) :
    s.turn = if s.hlePredicate then .refused (.hleStep s.pc0)
      else endResult (exec (fetchInstr s).1 (fetchInstr s).2) := by
  unfold State.turn endResult
  rfl

/-- Answers that differ in the drawing only still do at the end of the turn. -/
theorem endResult_undrawn_congr {r r' : Result} (h : undrawnResult r = undrawnResult r') :
    undrawnResult (endResult r) = undrawnResult (endResult r') := by
  cases r <;> cases r' <;> simp only [undrawnResult, Host.Outcome.next.injEq, reduceCtorEq] at h
  case next s t =>
    simp only [endResult, undrawnResult]
    rw [← s.endTurn_undrawn, h, t.endTurn_undrawn]
  case fault => exact congrArg Host.Outcome.fault (Host.Outcome.fault.inj h)
  case refused => exact congrArg Host.Outcome.refused (Host.Outcome.refused.inj h)

theorem State.turn_undrawn (s : State) : undrawnResult s.undrawn.turn = undrawnResult s.turn := by
  have hhle : s.undrawn.hlePredicate = s.hlePredicate := rfl
  rw [State.turn_eq, State.turn_eq, hhle]
  split
  · rfl
  · rw [fetchInstr_undrawn]
    exact endResult_undrawn_congr (exec_undrawn _ _)

theorem step_undrawn (s : State) : undrawnResult (step s.undrawn) = undrawnResult (step s) := by
  have hbegin := s.beginFrame_undrawn
  have hphase : s.undrawn.beginFrame.sched.phase = s.beginFrame.sched.phase :=
    (congrArg (fun t : State => t.sched.phase) hbegin :)
  unfold step State.cycle
  simp only [hphase]
  cases s.beginFrame.sched.phase with
  | idle => exact congrArg Host.Outcome.next hbegin
  | running => exact
      calc undrawnResult s.undrawn.beginFrame.turn
        _ = undrawnResult s.undrawn.beginFrame.undrawn.turn := (State.turn_undrawn _).symm
        _ = undrawnResult s.beginFrame.undrawn.turn := by rw [hbegin]
        _ = undrawnResult s.beginFrame.turn := State.turn_undrawn _

/-- Settles O20: each of the two machines steps as the one machine in which nothing is drawn. -/
theorem drawingNeverInfluencesTheRun : Obligations.DrawingNeverInfluencesTheRun := by
  intro s t h
  rw [← step_undrawn s, h, step_undrawn t]

end Sys2Proof.Machine
end

section
/-! The loop of RunFrame and the HLE predicate (60_exceptions.md R741, R742, R751, R752). -/

namespace Sys2Proof.Machine

/-- A turn whose ticks leave the budget unmet goes on in the frame. -/
theorem State.endTurn_of_budget (s : State) (h : s.sched.phase = .running)
    (hb : ((s.sched.elapsed + s.ticks : Nat) : Int) < budget s.cfg s.sched.debt) :
    s.endTurn = { s with
      tone := (toneTick s.cfg s.ticks s.tone).1
      samples := s.samples ++ (toneTick s.cfg s.ticks s.tone).2
      sched := { s.sched with elapsed := s.sched.elapsed + s.ticks } } := by
  unfold State.endTurn
  simp only
  rw [test_debt_of_running _ _ hb, h]
  rfl

/-- A turn that meets the budget ends the frame, and its image is resolved. -/
theorem State.endTurn_of_met (s : State)
    (hb : budget s.cfg s.sched.debt ≤ ((s.sched.elapsed + s.ticks : Nat) : Int)) :
    s.endTurn = { s with
      tone := (toneTick s.cfg s.ticks s.tone).1
      samples := s.samples ++ (toneTick s.cfg s.ticks s.tone).2
      frameOut := resolvePalette s.cfg s.video.fb
      sched := {
        debt := budget s.cfg s.sched.debt - ((s.sched.elapsed + s.ticks : Nat) : Int)
        elapsed := s.sched.elapsed + s.ticks
        phase := .idle } } := by
  unfold State.endTurn
  simp only
  rw [test_of_met _ _ hb]
  rfl

/-- A step that opens no frame is the call of RunFrame alone. -/
theorem step_of_idle {s : State} (h : s.beginFrame.sched.phase = .idle) : step s = .next s.beginFrame := by
  unfold step State.cycle
  simp only [h]

/-- Settles O6: the opening and the end of a turn, by the outcome of the loop's test. -/
theorem runFrameLoop : Obligations.RunFrameLoop := by
  refine fun s => ⟨s.beginFrame_of_running, s.beginFrame_of_budget, fun hidle hb => ?_,
    fun hb hrunning => s.endTurn_of_budget hrunning hb, s.endTurn_of_met⟩
  rw [step_of_idle (s.beginFrame_idle_iff.mpr ⟨hidle, hb⟩), s.beginFrame_of_no_budget hidle hb]
  rfl

theorem State.pcInHalf_iff (s : State) (base : Nat) :
    s.pcInHalf base = true ↔ base ≤ s.pc0.toNat ∧ s.pc0.toNat < base + s.cfg.fwSize := by
  simp [State.pcInHalf]

/-- Settles O7: the four cases are the predicate's four disjuncts. -/
theorem hlePredicateCases : Obligations.HlePredicateCases := by
  intro s
  simp only [State.hlePredicate, Bool.or_eq_true, Bool.and_eq_true, bne_iff_ne, beq_iff_eq, State.pcInHalf_iff]
  tauto

theorem HleOff.hlePredicate {s : State} (h : HleOff s) : s.hlePredicate = false := by
  unfold HleOff at h
  simp [State.hlePredicate, h]

/-- The opening of a frame decides nothing about HLE. -/
theorem State.beginFrame_hlePredicate (s : State) : s.beginFrame.hlePredicate = s.hlePredicate := by
  rw [State.beginFrame_frame]
  rfl

/-- A refused step is one whose HLE predicate holds: no instruction is refused. -/
theorem hlePredicate_of_step_refused {s : State} {r : Refusal} (h : step s = .refused r) : s.hlePredicate = true := by
  rw [← s.beginFrame_hlePredicate]
  rcases step_cases s with ⟨-, hs⟩ | ⟨-, hhle, -⟩ | ⟨-, -, hs⟩
  · rw [hs] at h
    cases h
  · exact hhle
  · rw [hs] at h
    cases hexec : exec (fetchInstr s.beginFrame).1 (fetchInstr s.beginFrame).2 with
    | next t => rw [hexec] at h; cases h
    | fault f => rw [hexec] at h; cases h
    | refused r => exact absurd hexec (exec_ne_refused _ _ r)

/-- Inside a frame, the predicate refuses the step before any fetch. -/
theorem step_of_hlePredicate {s : State} (hrunning : s.beginFrame.sched.phase = .running)
    (hhle : s.hlePredicate = true) : step s = .refused (.hleStep s.pc0) := by
  rcases step_cases s with ⟨hidle, -⟩ | ⟨-, -, hs⟩ | ⟨-, hfalse, -⟩
  · rw [hrunning] at hidle
    cases hidle
  · rw [hs, s.beginFrame_pc0]
  · rw [s.beginFrame_hlePredicate, hhle] at hfalse
    cases hfalse

/-- Settles O8. -/
theorem hleStepsRefusedAndNoOther : Obligations.HleStepsRefusedAndNoOther := by
  refine ⟨fun s hoff => ⟨hoff.hlePredicate, fun r hr => ?_, fun t ht => ?_⟩, fun s => step_of_hlePredicate⟩
  · exact absurd (hlePredicate_of_step_refused hr) (by simp [hoff.hlePredicate])
  · obtain ⟨-, -, -, hhle⟩ := noStepChangesTheLaunch s t ht
    exact hhle.trans hoff

end Sys2Proof.Machine
end

section
/-! The EEPROM (60_exceptions.md R760 to R764): the control word bit by bit, the poll, and a bit written and read back. -/

namespace Sys2Proof.Machine

/-! The control word -/

theorem highMask_getLsbD : ∀ j < 16, (0xFF00#16).getLsbD j = decide (8 ≤ j) := by decide

theorem lowMask_getLsbD : ∀ j < 16, (0x00FF#16).getLsbD j = decide (j < 8) := by decide

/-- A byte put into the low half of a word. -/
theorem replaceLow_getLsbD (v : Byte) (word : BitVec 16) (j : Nat) (hj : j < 16) :
    ((word &&& 0xFF00#16) ||| v.zeroExtend 16).getLsbD j = if j < 8 then v.getLsbD j else word.getLsbD j := by
  rw [BitVec.getLsbD_or, BitVec.getLsbD_and, highMask_getLsbD j hj, BitVec.getLsbD_setWidth]
  by_cases h : j < 8
  · simp [h, hj]
  · simp [h, hj, not_lt.mp h]

/-- A byte put into the high half of a word. -/
theorem replaceHigh_getLsbD (v : Byte) (word : BitVec 16) (j : Nat) (hj : j < 16) :
    ((word &&& 0x00FF#16) ||| (v.zeroExtend 16 <<< 8)).getLsbD j =
      if 8 ≤ j then v.getLsbD (j - 8) else word.getLsbD j := by
  rw [BitVec.getLsbD_or, BitVec.getLsbD_and, lowMask_getLsbD j hj, BitVec.getLsbD_shiftLeft,
    BitVec.getLsbD_setWidth]
  by_cases h : j < 8
  · simp [h]
  · simp [h, hj, not_lt.mp h, show j - 8 < 16 by omega]

/-- A control byte at a low port takes the word's low byte, one at a port that is only a high port the high byte. -/
theorem eeLoad_getLsbD (c : Config) (p : PortNo) (v : Byte) (word : BitVec 16) (j : Nat) (hj : j < 16) :
    (eeLoad c p v word).getLsbD j =
      if p ∈ c.eeLoPorts ∧ j < 8 then v.getLsbD j
      else if p ∉ c.eeLoPorts ∧ p ∈ c.eeHiPorts ∧ 8 ≤ j then v.getLsbD (j - 8)
      else word.getLsbD j := by
  unfold eeLoad
  simp only [List.contains_iff_mem]
  by_cases hlo : p ∈ c.eeLoPorts
  · simp [hlo, replaceLow_getLsbD v word j hj]
  · by_cases hhi : p ∈ c.eeHiPorts
    · simp [hlo, hhi, replaceHigh_getLsbD v word j hj]
    · simp [hlo, hhi]

/-- A notify write of a control byte is a poll of the word that it loads (R761). -/
theorem eeReceive_of_addressed {c : Config} {p : PortNo} (v : Byte) (e : Eeprom) (h : eeAddressed c p = true) :
    eeReceive c p v e = eePoll c { e with state := eeLoad c p v e.state } := if_pos h

theorem eeDir_eq_write_iff (c : Config) (word : BitVec 16) :
    eeDir c word = .write ↔ word.getLsbD c.eeDirBit.toNat = c.eeDirWrite := by
  simp [eeDir]

theorem eeDin_getLsbD (c : Config) (word : BitVec 16) :
    (eeDin c word).getLsbD 0 = word.getLsbD c.eeDinBit.toNat := by
  simp [eeDin]

theorem eeDin_eq_one_iff (c : Config) (word : BitVec 16) :
    eeDin c word = 1 ↔ word.getLsbD c.eeDinBit.toNat = true := by
  unfold eeDin
  cases word.getLsbD c.eeDinBit.toNat <;> decide

/-- The gathered number is the sum of the selected bits, each at its place in the list. -/
theorem gatherBits_eq_sum (word : BitVec 16) (bits : List (BitVec 4)) :
    gatherBits word bits =
      ((List.range bits.length).map fun i => (word.getLsbD (bits.getD i 0).toNat).toNat * 2 ^ i).sum := by
  induction bits with
  | nil => rfl
  | cons b bits ih =>
    have hshift : ∀ i, 2 * ((word.getLsbD (bits.getD i 0).toNat).toNat * 2 ^ i)
        = (word.getLsbD ((b :: bits).getD (i + 1) 0).toNat).toNat * 2 ^ (i + 1) := by
      intro i
      rw [List.getD_cons_succ, pow_succ]
      ring
    rw [gatherBits, ih, List.length_cons, List.range_succ_eq_map, List.map_cons, List.sum_cons, List.map_map,
      ← List.sum_map_mul_left]
    simp only [hshift, Function.comp_def, Nat.succ_eq_add_one, List.getD_cons_zero, pow_zero, mul_one]
    cases word.getLsbD b.toNat <;> rfl

theorem gatherBits_lt (word : BitVec 16) (bits : List (BitVec 4)) : gatherBits word bits < 2 ^ bits.length := by
  induction bits with
  | nil => exact Nat.one_pos
  | cons b bits ih =>
    rw [gatherBits, List.length_cons, Nat.pow_succ]
    split <;> omega

/-- Ten positions give an address of ten bits, so none is lost. -/
theorem eeAddr_toNat (c : Config) (word : BitVec 16) (h : c.eeAddrBit.length = 10) :
    (eeAddr c word).toNat = gatherBits word c.eeAddrBit := by
  have hlt := gatherBits_lt word c.eeAddrBit
  rw [h] at hlt
  exact Nat.mod_eq_of_lt hlt

/-- Settles O60. -/
theorem eepromControlWord : Obligations.EepromControlWord := by
  refine ⟨eeLoad_getLsbD, fun c p v e => ⟨fun h => ?_, fun hlo hhi => ?_⟩, fun c word => ⟨?_, ?_, fun h => ?_⟩⟩
  · exact eeReceive_of_addressed v e ((eeAddressed_iff c p).mpr h)
  · refine eeReceive_of_not_addressed c p v e (Bool.eq_false_iff.mpr fun h => ?_)
    exact ((eeAddressed_iff c p).mp h).elim hlo hhi
  · exact eeDir_eq_write_iff c word
  · exact eeDin_eq_one_iff c word
  · rw [eeAddr_toNat c word h, gatherBits_eq_sum, h]

/-! The poll -/

theorem eePoll_of_write {c : Config} {e : Eeprom} (h : eeDir c e.state = .write) :
    eePoll c e = { e with
      rw := .write, addr := eeAddr c e.state
      mem := Cells.write e.mem (eeAddr c e.state).toNat (eeDin c e.state) } := by
  unfold eePoll
  rw [h]

theorem eePoll_of_read {c : Config} {e : Eeprom} (h : eeDir c e.state = .read) :
    eePoll c e = { e with
      rw := .read, addr := eeAddr c e.state
      state := eeSurface c (Cells.read e.mem (eeAddr c e.state).toNat) e.state } := by
  unfold eePoll
  rw [h]

theorem eePoll_rw (c : Config) (e : Eeprom) : (eePoll c e).rw = eeDir c e.state := by
  cases h : eeDir c e.state with
  | write => rw [eePoll_of_write h]
  | read => rw [eePoll_of_read h]

theorem eePoll_addr (c : Config) (e : Eeprom) : (eePoll c e).addr = eeAddr c e.state := by
  cases h : eeDir c e.state with
  | write => rw [eePoll_of_write h]
  | read => rw [eePoll_of_read h]

/-- Settles O52. -/
theorem eepromPoll : Obligations.EepromPoll := by
  refine fun c e => ⟨eePoll_rw c e, eePoll_addr c e, fun h => ?_, fun h => ?_⟩
  · rw [eePoll_of_write h]
    exact ⟨rfl, Cells.read_write _ _ _⟩
  · rw [eePoll_of_read h]
    exact ⟨rfl, eeSurface_getLsbD c _ e.state⟩

/-! A bit written and read back -/

/-- After a read poll, bit EE_DOUT_BIT of EE_STATE is the cell at the address. -/
theorem eePoll_dout_of_read {c : Config} {e : Eeprom} (h : eeDir c e.state = .read) :
    (eePoll c e).state.getLsbD c.eeDoutBit.toNat = (Cells.read e.mem (eeAddr c e.state).toNat).getLsbD 0 := by
  rw [eePoll_of_read h, eeSurface_getLsbD c _ _ _ c.eeDoutBit.isLt, if_pos rfl]

/-- After a write poll, the cell at the address is the data-in bit. -/
theorem eePoll_cell_of_write {c : Config} {e : Eeprom} (h : eeDir c e.state = .write) :
    Cells.read (eePoll c e).mem (eePoll c e).addr.toNat = eeDin c e.state := by
  rw [eePoll_of_write h, Cells.read_write, if_pos rfl]

/-- The cell that a write poll stored is what a later read poll of its address shows, if it still stands there. -/
theorem eePoll_dout_of_stored {c : Config} {e f : Eeprom} (hwrite : eeDir c e.state = .write)
    (hread : eeDir c f.state = .read) (haddr : eeAddr c f.state = eeAddr c e.state)
    (hcell : Cells.read f.mem (eePoll c e).addr.toNat = Cells.read (eePoll c e).mem (eePoll c e).addr.toNat) :
    (eePoll c f).state.getLsbD c.eeDoutBit.toNat = e.state.getLsbD c.eeDinBit.toNat := by
  rw [eePoll_cell_of_write hwrite, eePoll_addr] at hcell
  rw [eePoll_dout_of_read hread, haddr, hcell, eeDin_getLsbD]

theorem eeRbLo_ne_eeRbHi_of_valid {c : Config} (h : c.valid = true) : c.eeRbLo ≠ c.eeRbHi := by
  simp only [Config.valid, Config.portsValid, Bool.and_eq_true, bne_iff_ne] at h
  tauto

theorem lowByte_getLsbD (word : Addr) (j : Nat) (hj : j < 8) : (lowByte word).getLsbD j = word.getLsbD j := by
  simp [lowByte, hj]

theorem highByte_getLsbD (word : Addr) (j : Nat) (h8 : 8 ≤ j) (hj : j < 16) :
    (highByte word).getLsbD (j - 8) = word.getLsbD j := by
  simp [highByte, show j - 8 < 8 by omega, h8]

/-- After a poll each bit of EE_STATE stands in the read-back latch of its byte. -/
theorem State.readBack_getLsbD (s : State) {p : PortNo} (v : Byte) (hne : s.cfg.eeRbLo ≠ s.cfg.eeRbHi)
    (hp : eeAddressed s.cfg p = true) (j : Nat) (hj : j < 16) :
    (if j < 8 then ((s.portWriteNotify p v).latchAt s.cfg.eeRbLo).getLsbD j
      else ((s.portWriteNotify p v).latchAt s.cfg.eeRbHi).getLsbD (j - 8))
      = (s.portWriteNotify p v).eeprom.state.getLsbD j := by
  rw [State.latchAt_portWriteNotify, State.latchAt_portWriteNotify, State.portWriteNotify_eeprom]
  simp only [hp, hne, true_and, if_true, if_false]
  split
  · exact lowByte_getLsbD _ j ‹_›
  · exact highByte_getLsbD _ j (not_lt.mp ‹_›) hj

/-- Settles O53. -/
theorem eepromBitReadsBack : Obligations.EepromBitReadsBack := by
  rintro s t _ p q v x hvalid hcfg hp hq hwrite hread haddr hcell rfl
  have hstored : (s.portWriteNotify p v).eeprom
      = eePoll s.cfg { s.eeprom with state := eeLoad s.cfg p v s.eeprom.state } := eeReceive_of_addressed v _ hp
  have hshown : (t.portWriteNotify q x).eeprom
      = eePoll s.cfg { t.eeprom with state := eeLoad s.cfg q x t.eeprom.state } := by
    rw [State.portWriteNotify_eeprom, hcfg, eeReceive_of_addressed x _ hq]
  rw [hstored] at hcell
  have hstate : (t.portWriteNotify q x).eeprom.state.getLsbD s.cfg.eeDoutBit.toNat
      = (eeLoad s.cfg p v s.eeprom.state).getLsbD s.cfg.eeDinBit.toNat := by
    rw [hshown]
    exact eePoll_dout_of_stored (e := { s.eeprom with state := _ }) (f := { t.eeprom with state := _ }) hwrite hread
      haddr hcell
  have hlatch := t.readBack_getLsbD x (hcfg ▸ eeRbLo_ne_eeRbHi_of_valid hvalid) (hcfg ▸ hq) s.cfg.eeDoutBit.toNat
    s.cfg.eeDoutBit.isLt
  rw [hcfg] at hlatch
  exact ⟨hstate, hlatch.trans hstate⟩

end Sys2Proof.Machine
end

section
/-! The video writer and the palette resolution (60_exceptions.md R771 to R776). -/

namespace Sys2Proof.Machine

/-- Valid parameters give the video writer four different ports. -/
theorem videoPorts_nodup_of_valid {c : Config} (h : c.valid = true) :
    [c.portArm, c.portColor, c.portX, c.portY].Nodup := by
  simp only [Config.valid, Config.portsValid, Bool.and_eq_true, decide_eq_true_eq] at h
  tauto

/-- The cells of FB are told apart by their coordinates: a column is below 128. -/
theorem fbIndex_eq_iff (vx : BitVec 7) (vy : BitVec 6) {x : Nat} (y : Nat) (hx : x < 128) :
    y * 128 + x = fbIndex vx vy ↔ x = vx.toNat ∧ y = vy.toNat := by
  have hvx := vx.isLt
  unfold fbIndex
  omega

/-- A strobe changes FB and VARM only. -/
theorem videoStrobe_frame (c : Config) (v : Byte) (d : Video) :
    videoStrobe c v d = { d with fb := (videoStrobe c v d).fb, arm := v &&& c.armMask } := rfl

theorem videoStrobe_fb_of_transition {c : Config} {v : Byte} {d : Video} (hfrom : d.arm = c.armFrom)
    (hto : v &&& c.armMask = c.armTo) :
    (videoStrobe c v d).fb = Cells.write d.fb (fbIndex d.x d.y) d.color := by
  simp [videoStrobe, hfrom, hto]

theorem videoStrobe_fb_of_not_transition {c : Config} {v : Byte} {d : Video}
    (h : ¬ (d.arm = c.armFrom ∧ v &&& c.armMask = c.armTo)) : (videoStrobe c v d).fb = d.fb := by
  simp only [videoStrobe, Bool.and_eq_true, beq_iff_eq, if_neg h]

/-- What a write makes of each port, where the four video ports differ (R771). -/
theorem videoReceive_of_nodup {c : Config} (p : PortNo) (v : Byte) (d : Video)
    (hnodup : [c.portArm, c.portColor, c.portX, c.portY].Nodup) :
    (p = c.portColor → videoReceive c p v d = { d with color := colorOf c v })
      ∧ (p = c.portX → videoReceive c p v d = { d with x := xOf c v })
      ∧ (p = c.portY → videoReceive c p v d = { d with y := yOf c v })
      ∧ (p = c.portArm → videoReceive c p v d = videoStrobe c v d)
      ∧ (p ∉ [c.portColor, c.portX, c.portY, c.portArm] → videoReceive c p v d = d) := by
  simp only [List.nodup_cons, List.mem_cons, List.not_mem_nil, or_false, not_or, not_false_eq_true,
    List.nodup_nil, and_true] at hnodup ⊢
  obtain ⟨⟨hac, hax, hay⟩, ⟨hcx, hcy⟩, hxy⟩ := hnodup
  refine ⟨?color, ?x, ?y, ?arm, ?other⟩
  case color => rintro rfl; simp [videoReceive, Ne.symm hac, hcx, hcy]
  case x => rintro rfl; simp [videoReceive, Ne.symm hax, Ne.symm hcx, hxy]
  case y => rintro rfl; simp [videoReceive, Ne.symm hay, Ne.symm hcy, Ne.symm hxy]
  case arm => rintro rfl; simp [videoReceive, hac, hax, hay]
  case other => rintro ⟨hcolor, hx, hy, harm⟩; simp [videoReceive, hcolor, hx, hy, harm]

/-- A transition plots one pixel: the cell at (VX, VY) takes VCOLOR, and every other cell stays (R772). -/
theorem videoStrobe_read_of_transition {c : Config} {v : Byte} {d : Video} (hfrom : d.arm = c.armFrom)
    (hto : v &&& c.armMask = c.armTo) {x : Nat} (y : Nat) (hx : x < 128) :
    Cells.read (videoStrobe c v d).fb (y * 128 + x) =
      if x = d.x.toNat ∧ y = d.y.toNat then d.color else Cells.read d.fb (y * 128 + x) := by
  simp only [videoStrobe_fb_of_transition hfrom hto, Cells.read_write, fbIndex_eq_iff d.x d.y y hx]

/-- Settles O54. -/
theorem videoWriterPorts : Obligations.VideoWriterPorts :=
  ⟨fun _ p v d hvalid => videoReceive_of_nodup p v d (videoPorts_nodup_of_valid hvalid),
    fun c v d => ⟨videoStrobe_frame c v d, fun hfrom hto _ y => videoStrobe_read_of_transition hfrom hto y,
      videoStrobe_fb_of_not_transition⟩⟩

/-- Row y of the resolved image. -/
theorem resolvePalette_getElem? (c : Config) (fb : Cells 2) {y : Nat} (hy : y < 64) :
    (resolvePalette c fb)[y]? = some ((List.range 128).map fun x => resolveCell c fb y x) := by
  simp [resolvePalette, hy]

/-- Settles O55. -/
theorem paletteResolution : Obligations.PaletteResolution := by
  refine fun c fb => ⟨by simp [resolvePalette], fun y hy => ⟨_, resolvePalette_getElem? c fb hy, by simp, ?_⟩⟩
  intro x hx
  rw [List.getElem?_map, List.getElem?_range hx]
  rfl

end Sys2Proof.Machine
end

section
/-! The tone generator (60_exceptions.md R780 to R784). -/

namespace Sys2Proof.Machine

/-- The top two bits of a byte are its quotient by 64. -/
theorem extractLsb'_top_toNat (v : Byte) : (v.extractLsb' 6 2).toNat = v.toNat / 64 := by
  have hv := v.isLt
  rw [BitVec.extractLsb'_toNat, Nat.shiftRight_eq_div_pow]
  omega

theorem extractLsb'_top_ne_iff (v : Byte) (n : BitVec 2) : v.extractLsb' 6 2 ≠ n ↔ v.toNat / 64 ≠ n.toNat := by
  rw [← extractLsb'_top_toNat, Ne, Ne, BitVec.toNat_inj]

/-- A new tone at PORT_TONE. -/
theorem toneReceive_of_changed {c : Config} {p : PortNo} {v : Byte} {t : Tone} (hp : p = c.portTone)
    (hv : v.toNat / 64 ≠ t.select.toNat) :
    toneReceive c p v t = { t with select := v.extractLsb' 6 2, amp := c.ampFull, phase := 0 } :=
  if_pos ⟨hp, (extractLsb'_top_ne_iff v t.select).mpr hv⟩

theorem toneReceive_of_same {c : Config} {p : PortNo} {v : Byte} {t : Tone}
    (h : ¬ (p = c.portTone ∧ v.toNat / 64 ≠ t.select.toNat)) : toneReceive c p v t = t :=
  if_neg (by rwa [extractLsb'_top_ne_iff])

/-- Settles O56. -/
theorem toneSelect : Obligations.ToneSelect := by
  refine fun c p v t => ⟨fun hp hv => ?_, fun _ hv => ?_, fun hp => ?_⟩
  · rw [toneReceive_of_changed hp hv, ← extractLsb'_top_toNat, BitVec.ofNat_toNat, BitVec.setWidth_eq]
  · exact toneReceive_of_same fun ⟨_, hne⟩ => hne hv
  · exact toneReceive_of_same fun ⟨htone, _⟩ => hp htone

theorem toneEmits_succ (c : Config) (n : Nat) (t : Tone) :
    toneEmits c (n + 1) t =
      ((toneEmits c n (toneAfterEmit c t)).1, toneSample c t :: (toneEmits c n (toneAfterEmit c t)).2) := rfl

/-- Ticks that hold no threshold are kept in TACC. -/
theorem toneTick_of_lt {c : Config} {n : Nat} {t : Tone} (h : t.tacc + n * c.tickStep < c.sampleThreshold) :
    toneTick c n t = ({ t with tacc := t.tacc + n * c.tickStep }, []) := by
  unfold toneTick
  simp only [Nat.div_eq_of_lt h, Nat.mod_eq_of_lt h]
  rfl

/-- A threshold that is held is one turn of R782's loop: a sample, and the rest of the ticks in TACC. -/
theorem toneTick_of_le {c : Config} {n : Nat} {t : Tone} (hpos : 0 < c.sampleThreshold)
    (h : c.sampleThreshold ≤ t.tacc + n * c.tickStep) :
    toneTick c n t =
      let u : Tone := { toneAfterEmit c t with tacc := t.tacc + n * c.tickStep - c.sampleThreshold }
      ((toneTick c 0 u).1, toneSample c t :: (toneTick c 0 u).2) := by
  have hdiv : (t.tacc + n * c.tickStep) / c.sampleThreshold
      = (t.tacc + n * c.tickStep - c.sampleThreshold) / c.sampleThreshold + 1 := Nat.div_eq_sub_div hpos h
  have hmod : (t.tacc + n * c.tickStep) % c.sampleThreshold
      = (t.tacc + n * c.tickStep - c.sampleThreshold) % c.sampleThreshold := Nat.mod_eq_sub_mod h
  simp only [toneTick, hdiv, hmod, toneEmits_succ, Nat.zero_mul, Nat.add_zero]
  rfl

/-- The waveform value of each of the four tones (R783). -/
theorem toneValue_of_select (c : Config) (t : Tone) :
    (t.select = 0 → toneValue c t = 0)
      ∧ (t.select = 1 → toneValue c t = toneLook c t.phase c.stride1)
      ∧ (t.select = 2 → toneValue c t = toneLook c t.phase c.stride2)
      ∧ (t.select = 3 → toneValue c t =
          Config.toneAdd (toneLook c t.phase c.stride1) (toneLook c t.phase c.stride2)) := by
  refine ⟨fun h => ?_, fun h => ?_, fun h => ?_, fun h => ?_⟩ <;> rw [toneValue, h] <;> rfl

/-- A waveform value of 0 gives the zero sample, whatever AMP is. -/
theorem toneSample_of_silent {c : Config} {t : Tone} (h : toneValue c t = 0) :
    toneSample c t = { left := 0, right := 0 } := by
  simp [toneSample, h]

/-- Settles O57. -/
theorem toneTickEmitsOnePerThreshold : Obligations.ToneTickEmitsOnePerThreshold := by
  refine ⟨fun c n t => toneTick_of_lt, fun c n t => toneTick_of_le, ?_⟩
  rintro c t _ _ rfl rfl
  obtain ⟨hsilent, hfirst, hsecond, hdual⟩ := toneValue_of_select c t
  exact ⟨fun h => ⟨hsilent h, toneSample_of_silent (hsilent h)⟩, hfirst, hsecond, hdual⟩

end Sys2Proof.Machine
end
